-- ==== Sys2Proof/Word.lean ====
section
/-!
DEFINITION. The plain words of the model: bytes, times and intervals.
Times are natural numbers of microseconds on the model's clock (log entry 1).
-/
namespace Sys2Proof

/-- One data byte of a frame or of a profile record (11.1). -/
abbrev Byte := BitVec 8

/-- A moment on the model's clock, or an interval, in µs. -/
abbrev Time := Nat

/-- `n` milliseconds. -/
abbrev msec (n : Nat) : Time := n * 1000

/-- `n` seconds. -/
abbrev seconds (n : Nat) : Time := n * 1000000

end Sys2Proof
end

