-- ==== Sys2Proof/Syntax.lean ====
section
/-!
DEFINITION. The commands of the part, one constructor of `Instr` per row of spec/opcode_table.json in the table's order,
and the names their operands use. The table gives no operands; each is the datum the governing rule says the event
carries (INVENTORY.md, 'Instructions').
-/
namespace Sys2Proof

/-- The seven logical axes, in axis index order (00 'Directions', 2.1). -/
inductive Axis
  | long | height | tilt | recline | upper | head | thigh
deriving DecidableEq, Repr

/-- A direction of an axis; position increases toward HIGH (00 'Directions'). -/
inductive Dir
  | low | high
deriving DecidableEq, Repr

/-- The two heated zones (R143). -/
inductive Zone
  | cushion | back
deriving DecidableEq, Repr

/-- The driver's door side, as the SIDE strap names it (R197). -/
inductive Side
  | left | right
deriving DecidableEq, Repr

/-- The peer-view records whose staleness is the row PEER_RECORD_STALE (R178). -/
inductive PeerRecord
  | vehicleState | memoryKeys | comfortRequest
deriving DecidableEq, Repr

/-- An H-bridge channel CH0–CH7 (2.1). -/
abbrev Channel := Fin 8

/-- An air cell by its index of R102. -/
abbrev CellIx := Fin 14

/-- A switch position 0–19 (10.1). -/
abbrev SwitchPos := Fin 20

/-- A station number 0–3 (R197, R6). -/
abbrev Station := Fin 4

/-- The commands of the part. -/
inductive Instr
  /-- The feed voltage, in mV, after a comparison changed (R1). -/
  | supplyComparatorEvent (mv : Nat)
  /-- The supply rises to `mv` mV; `node` and `side` are the straps (R197). -/
  | supplyResetExit (node : Station) (side : Side) (mv : Nat)
  /-- A frame on 0F4h (R5). -/
  | energyAllowance (data : List Byte)
  | allowanceStale
  /-- A SEAT_STATUS of station `n` (R6). -/
  | peerStatus (n : Station) (data : List Byte)
  | peerStatusStale (n : Station)
  | startIntervalExpiry (a : Axis)
  | coastEnd (a : Axis)
  | brakeEnd (a : Axis)
  /-- A hall edge on channel `ch`, `dt` µs after the command before it (R37, log entry 3). -/
  | hallEdge (ch : Channel) (dt : Nat)
  | stallTimerExpiry (a : Axis)
  | obstructionDetected (a : Axis)
  | timedDriveExpiry (a : Axis)
  | startTimeout (a : Axis)
  /-- Service request 03h (R73). -/
  | moveAxis (axis : Byte) (target : BitVec 16) (tag : Byte)
  /-- Service request 04h (R74). -/
  | homeAxis (selector : Byte) (tag : Byte)
  /-- Service request 05h (R75). -/
  | stopAll
  /-- Service request 02h (R49). -/
  | queryAxis (axis : Byte)
  /-- Service request 01h (R23). -/
  | queryBudget (selector : Byte)
  /-- The contact of a switch position becomes closed or open (R191). -/
  | contactChange (p : SwitchPos) (closed : Bool)
  | debounceExpiry (p : SwitchPos)
  | switchRepeatExpiry (p : SwitchPos)
  | switchStuck (p : SwitchPos)
  /-- A frame on 2D0h (R84). -/
  | memoryKeys (data : List Byte)
  | storeWindowExpiry
  | profileWriteEnd
  /-- A KEY_EVENT LOCK by key `key` (R91, R92). -/
  | keyEventLock (key : Byte)
  /-- A KEY_EVENT UNLOCK by key `key` (R92). -/
  | keyEventUnlock (key : Byte)
  | keyRecallWindowExpiry
  /-- A frame on 118h (R194). -/
  | vehicleState (data : List Byte)
  | peerRecordStale (r : PeerRecord)
  /-- Service request 06h (R97). -/
  | profileExport (slot : Byte)
  /-- Service request 07h (R98). -/
  | profileImport (slot : Byte)
  /-- A frame on B+5 (R98). -/
  | profileData (data : List Byte)
  | importTimeout
  /-- Service request 08h (R100). -/
  | profileErase (slot : Byte)
  /-- The manifold sensor now reads `reading` kPa (R107, log entry 6). -/
  | manifoldReadingChange (reading : Nat)
  | fillLimitExpiry
  | fillUnconfirmedTimeout
  /-- The settle timer of a MEASURE expires and the sensor reads `reading` kPa (R109). -/
  | measureSettleExpiry (reading : Nat)
  | ventEnd (c : CellIx)
  | leakTimerExpiry (c : CellIx)
  /-- Service request 09h (R121). -/
  | queryCells (selector : Byte)
  /-- A frame on 2E8h (R125, R152). -/
  | comfortRequest (data : List Byte)
  /-- A frame on 2ECh (R137). -/
  | massageStream (data : List Byte)
  | stepHoldExpiry
  | sessionTimerExpiry
  | ventingTimerExpiry
  | streamWatchExpiry
  | heaterIntervalStart
  /-- The count of zone `z` ends at `count` µs (R144, R145). -/
  | heaterMeasurementDone (z : Zone) (count : Nat)
  | heaterPwmPeriod
  | stepDownExpiry (z : Zone)
  /-- A frame on 050h (R159). -/
  | precrash (data : List Byte)
  | precrashStale
  | pcuHoldExpiry
  /-- Service request 0Ah (R173). -/
  | postcrashRelease
  | txSent
  | txArbitrationLost
  | txFailed
  | linkOffExpiry
  | statusTimerExpiry
  /-- A SERVICE_REQUEST frame of length 0, of an unknown code or of a wrong length (R185). -/
  | unknownServiceRequest (data : List Byte)
  /-- Service request 0Bh (R188). -/
  | clearFaults
  /-- Service request 0Ch (R189). -/
  | queryFaults (selector : Byte)
  | runOnTimerExpiry
  | configWindowExpiry
  /-- Service request 0Dh (R199). -/
  | configure (variant fuse fallback concurrency runOn cushionTrim backTrim : Byte)
  /-- Service request 0Eh (R200). -/
  | restart
  /-- A frame on 11Ch of another kind, key number or length (R176, R177). -/
  | keyEvent (data : List Byte)
deriving DecidableEq, Repr

end Sys2Proof
end

