-- ==== Sys2Proof/Config.lean ====
section
/-!
DEFINITION. The constants of the manual: axis constants, channel maps, budget amounts, thresholds, intervals and the
built-in massage programs. The manual leaves no value of these open, so nothing here is opaque.
-/
namespace Sys2Proof

/-- The axis index 0–6 (00 'Directions'). -/
def Axis.index : Axis → Fin 7
  | .long => 0 | .height => 1 | .tilt => 2 | .recline => 3 | .upper => 4 | .head => 5 | .thigh => 6

/-- All axes in axis index order. -/
def Axis.all : List Axis := [.long, .height, .tilt, .recline, .upper, .head, .thigh]

/-- The axis of an index byte, none above 6 (R49, R73). -/
def Axis.ofNat? : Nat → Option Axis
  | 0 => some .long | 1 => some .height | 2 => some .tilt | 3 => some .recline
  | 4 => some .upper | 5 => some .head | 6 => some .thigh | _ => none

def Dir.opposite : Dir → Dir
  | .low => .high | .high => .low

namespace Config

/-- The length between the end stops, in counts (2.2). -/
def travel : Axis → Nat
  | .long => 2400 | .height => 900 | .tilt => 600 | .recline => 1800 | .upper => 500 | .head => 700 | .thigh => 400

/-- The LOW soft stop of every axis (2.2). -/
def softLow : Int := 8

/-- The HIGH soft stop, travel − 8 (2.2). -/
def softHigh (a : Axis) : Int := (travel a : Int) - 8

/-- The soft stop in a direction (R26). -/
def softStop (a : Axis) : Dir → Int
  | .low => softLow
  | .high => softHigh a

/-- A target clamped into the soft stops (R61). -/
def clampTarget (a : Axis) (t : Int) : Int := max softLow (min (softHigh a) t)

/-- The run draw, in bu (R9, 2.2). -/
def runDraw : Axis → Nat
  | .long => 50 | .height => 50 | .tilt => 40 | .recline => 45 | .upper => 30 | .head => 20 | .thigh => 20

/-- The start claim, twice the run draw (R9). -/
def startClaim (a : Axis) : Nat := 2 * runDraw a

/-- The coast allowance, in counts (2.2). -/
def coastAllowance : Axis → Int
  | .long => 4 | .height => 3 | .tilt => 3 | .recline => 4 | .upper => 2 | .head => 2 | .thigh => 2

/-- The tolerance about a target, ±3 counts (2.2). -/
def tolerance : Int := 3

/-- The channel of an axis in a variant, none where the axis is absent (R24). -/
def channelMap (variant : Fin 4) (a : Axis) : Option Channel :=
  match variant, a with
  | 0, .long => some 0 | 0, .height => some 1 | 0, .tilt => some 2 | 0, .recline => some 3
  | 0, .upper => some 4 | 0, .head => some 5 | 0, .thigh => some 6
  | 1, .long => some 0 | 1, .height => some 1 | 1, .tilt => some 2 | 1, .recline => some 3
  | 1, .upper => none | 1, .head => some 4 | 1, .thigh => none
  | 2, .long => some 7 | 2, .height => some 6 | 2, .tilt => some 5 | 2, .recline => some 4
  | 2, .upper => some 3 | 2, .head => some 2 | 2, .thigh => some 1
  | 3, .long => some 0 | 3, .height => some 1 | 3, .recline => some 2 | 3, _ => none

/-- The present axis whose channel is `ch`, if any (R24, R37). -/
def axisOn (variant : Fin 4) (ch : Channel) : Option Axis :=
  Axis.all.find? fun a => channelMap variant a == some ch

/-- The reserve R, in bu (R7). -/
def reserve : Nat := 6

/-- The pump claim, in bu (R10). -/
def pumpDraw : Nat := 40

/-- The current of a heater mat at 100 % duty, in bu (R11, R143). -/
def fullDraw : Zone → Nat
  | .cushion => 65 | .back => 45

/-- The relief limit of the manifold, in kPa (R104). -/
def relief : Nat := 50

/-- The protect target of the axes that take part in pull-forward, with its direction (R162). -/
def protectTarget : Axis → Option (Dir × Int)
  | .tilt => some (.high, 360) | .recline => some (.low, 600) | .head => some (.high, 400) | _ => none

/-! ### Intervals -/

def startInterval : Time := msec 150      -- R29
def coastInterval : Time := msec 60       -- R31
def brakeInterval : Time := msec 40       -- R32
def rampEnd : Time := msec 200            -- R33
def timedLimit : Time := msec 700         -- R35
def stallLimit : Time := msec 120         -- R40
def startTime : Time := seconds 5         -- R56
def plausibleInterval : Time := 1500      -- R43
def storeWindowTime : Time := seconds 5   -- R85
def keyWindowTime : Time := seconds 30    -- R92
def writeTime : Time := msec 25           -- R81
def importTime : Time := msec 1000        -- R98
def settleTime : Time := msec 80          -- R109
def unconfirmedLimit : Time := msec 3000  -- R107
def leakTime : Time := seconds 60         -- R118
def sessionTime : Time := seconds 900     -- R129
def ventingTime : Time := msec 1500       -- R135
def watchTime : Time := msec 3000         -- R139
def stepDownTime : Time := seconds 1200   -- R155
def controlInterval : Time := msec 1000   -- R144
def outputPeriod : Time := msec 100       -- R144
def dischargeTime : Time := msec 5        -- R144
def holdTime : Time := msec 2000          -- R161
def allowanceLimit : Time := msec 2000    -- R5
def stationLimit : Time := msec 300       -- R6
def vehicleLimit : Time := msec 500       -- 9.3
def memoryKeysLimit : Time := msec 1000   -- 9.3
def comfortLimit : Time := msec 2000      -- 9.3
def linkOffTime : Time := msec 500        -- R181
def statusPeriod : Time := msec 100       -- R183
def debounceTime : Time := msec 20        -- R191
def firstRepeat : Time := msec 500        -- R191
def nextRepeat : Time := msec 300         -- R191
def stuckTime : Time := seconds 60        -- R193
def configWindowTime : Time := seconds 10 -- R198

/-- The most items the event queue holds (R182). -/
def eventQueueMax : Nat := 8

/-- The most steps the stream step queue holds (R137). -/
def streamQueueMax : Nat := 8

/-- The tally at which the link goes off (R181). -/
def linkOffTally : Nat := 256

/-- Notices the blocks may exchange inside one step before the model cuts the exchange (log entry 7). -/
def noticeBudget : Nat := 1024

/-! ### Massage -/

/-- The cells of a row 1–4 (6.1). -/
def row : Nat → List CellIx
  | 1 => [0, 1] | 2 => [2, 3] | 3 => [4, 5] | 4 => [6, 7] | _ => []

def leftColumn : List CellIx := [0, 2, 4, 6]
def rightColumn : List CellIx := [1, 3, 5, 7]
def massageCells : List CellIx := [0, 1, 2, 3, 4, 5, 6, 7]
def bolsterCells : List CellIx := [10, 11, 12, 13]
def supportCells : List CellIx := [8, 9, 10, 11, 12, 13]
def allCells : List CellIx := [0, 1, 2, 3, 4, 5, 6, 7, 8, 9, 10, 11, 12, 13]

/-- One row of the table of R132: fill set, vent set, hold in ms. -/
structure ProgramStep where
  fill : List CellIx
  vent : List CellIx
  hold : Nat
deriving DecidableEq, Repr

/-- The steps of a built-in program 0–4 (R132). -/
def programSteps : Nat → List ProgramStep
  | 0 => [⟨row 1, row 4, 1200⟩, ⟨row 2, row 1, 1200⟩, ⟨row 3, row 2, 1200⟩, ⟨row 4, row 3, 1200⟩]
  | 1 => [⟨massageCells, [], 800⟩, ⟨[], massageCells, 800⟩]
  | 2 => [⟨row 1, [], 1000⟩, ⟨row 2, row 1, 1000⟩, ⟨[], row 2, 600⟩]
  | 3 => [⟨row 4, [], 1000⟩, ⟨row 3, row 4, 1000⟩, ⟨[], massageCells, 600⟩]
  | 4 => [⟨leftColumn, [], 1500⟩, ⟨rightColumn, leftColumn, 1500⟩, ⟨[], massageCells, 1000⟩]
  | _ => []

/-- A program code the sequencer knows: 0–4 and 7 (R126). -/
def knownProgram (p : Nat) : Bool := p ≤ 4 || p == 7

/-- The intensity peak, in kPa (R127). -/
def intensityPeak (i : Nat) : Nat := 10 + 5 * i

/-! ### Heating -/

/-- target10 of a level (R150). -/
def heatTarget : Nat → Int
  | 1 => 330 | 2 => 370 | _ => 410

/-- The segments of R145: c_a, c_b and 10 × T_a. -/
def segments : List (Nat × Nat × Int) :=
  [(3160, 1800, -200), (1800, 1062, -100), (1062, 648, 0), (648, 407, 100), (407, 263, 200),
   (263, 174, 300), (174, 117, 400), (117, 81, 500), (81, 57, 600)]

end Config
end Sys2Proof
end

