-- ==== Sys2Proof/WellFormed.lean ====
section
/-!
DEFINITION. Which commands the outside world can send: the ranges the manual gives the operands.
`exec` is total and gives every command a meaning; these checks say which commands are events of the manual.
-/
namespace Sys2Proof

/-- A classical base frame carries at most 8 data bytes (11). -/
def frameLength (data : List Byte) : Bool := data.length ≤ 8

/-- The sensor reads 0 to 60 kPa (R104). -/
def readingRange (r : Nat) : Bool := r ≤ 60

/-- The count stops at 4095 (R144). -/
def countRange (c : Nat) : Bool := c ≤ 4095

/-- Leaving supply reset needs 6.0 V (R197). -/
def startVoltage (mv : Nat) : Bool := 6000 ≤ mv

/-- Repeats belong to the lumbar and bolster positions 14–19 (R191). -/
def repeatPosition (p : SwitchPos) : Bool := 14 ≤ p.val

/-- Leak timers belong to the support cells 8–13 (R118). -/
def supportCell (c : CellIx) : Bool := 8 ≤ c.val

/-- A KEY_EVENT LOCK or UNLOCK names a key 0–3; any other is the row KEY_EVENT (4.6). -/
def keyRange (k : Byte) : Bool := k.toNat ≤ 3

/-- The ranges of a command's operands. -/
def Instr.wf : Instr → Bool
  | .supplyResetExit _ _ mv => startVoltage mv
  | .energyAllowance d | .peerStatus _ d | .memoryKeys d | .vehicleState d | .profileData d | .comfortRequest d
  | .massageStream d | .precrash d | .unknownServiceRequest d | .keyEvent d => frameLength d
  | .switchRepeatExpiry p => repeatPosition p
  | .keyEventLock k | .keyEventUnlock k => keyRange k
  | .manifoldReadingChange r | .measureSettleExpiry r => readingRange r
  | .leakTimerExpiry c => supportCell c
  | .heaterMeasurementDone _ c => countRange c
  | .supplyComparatorEvent _ | .allowanceStale | .peerStatusStale _ | .startIntervalExpiry _ | .coastEnd _ | .brakeEnd _
  | .hallEdge _ _ | .stallTimerExpiry _ | .obstructionDetected _ | .timedDriveExpiry _ | .startTimeout _
  | .moveAxis _ _ _ | .homeAxis _ _ | .stopAll | .queryAxis _ | .queryBudget _ | .contactChange _ _ | .debounceExpiry _
  | .switchStuck _ | .storeWindowExpiry | .profileWriteEnd | .keyRecallWindowExpiry | .peerRecordStale _
  | .profileExport _ | .profileImport _ | .importTimeout | .profileErase _ | .fillLimitExpiry | .fillUnconfirmedTimeout
  | .ventEnd _ | .queryCells _ | .stepHoldExpiry | .sessionTimerExpiry | .ventingTimerExpiry | .streamWatchExpiry
  | .heaterIntervalStart | .heaterPwmPeriod | .stepDownExpiry _ | .precrashStale | .pcuHoldExpiry | .postcrashRelease
  | .txSent | .txArbitrationLost | .txFailed | .linkOffExpiry | .statusTimerExpiry | .clearFaults | .queryFaults _
  | .runOnTimerExpiry | .configWindowExpiry | .configure _ _ _ _ _ _ _ | .restart => true

end Sys2Proof
end

