-- ==== Sys2Proof/Decode.lean ====
section
/-!
DEFINITION. The received-frame layouts of 11.1 and 11.4, read from data bytes, and `decodeTableWord`.
spec/opcode_table.json gives no row any bits, so no word spells a command. Each frame reader answers none where the
length differs from the expected one (R177), and otherwise reads the fields by R201.
-/
namespace Sys2Proof

/-- The table gives no row bits: no word spells a command. -/
def decodeTableWord (_nbits _w : Nat) : Option Instr := none

/-- Two bytes, most significant first (11). -/
def word16 (hi lo : Byte) : Nat := hi.toNat * 256 + lo.toNat

/-- Bit `i` of a byte. -/
def bit (b : Byte) (i : Nat) : Bool := b.getLsbD i

/-- The levels of the PRECRASH broadcast (8.2). -/
inductive PrecrashLevel
  | none | alert | crash
deriving DecidableEq, Repr

/-- The level of a level code; none for a code above 2 (8.2, R159). -/
def PrecrashLevel.ofNat? : Nat → Option PrecrashLevel
  | 0 => some .none | 1 => some .alert | 2 => some .crash | _ => Option.none

/-- PRECRASH: level code and alive counter (11.1). -/
def readPrecrash : List Byte → Option (Nat × Nat)
  | [l, c] => some (l.toNat, c.toNat % 16)
  | _ => none

/-- The allowance of an ENERGY_ALLOWANCE frame (R5). -/
inductive Allowance
  | value (bu : Nat) | unlimited
deriving DecidableEq, Repr

/-- The table of R5: 0–400 the value, 401–1022 is 400, 1023 unlimited. -/
def allowanceOf (field : Nat) : Allowance :=
  if field = 1023 then .unlimited else .value (min field 400)

/-- ENERGY_ALLOWANCE: allowance and shed_comfort (11.1, R5). -/
def readEnergy : List Byte → Option (Allowance × Bool)
  | [h, l, f] => some (allowanceOf (word16 h l % 1024), bit f 0)
  | _ => none

/-- The ignition (9.3). -/
inductive Ignition
  | off | acc | run
deriving DecidableEq, Repr

/-- Ignition 3–255 is taken as OFF (R201). -/
def Ignition.ofByte : Nat → Ignition
  | 1 => .acc | 2 => .run | _ => .off

/-- The fields of VEHICLE_STATE (11.1). -/
structure VehicleFields where
  ignition : Ignition
  /-- none is 'unknown'. -/
  speed : Option Nat
  leftOpen : Bool
  rightOpen : Bool
deriving DecidableEq, Repr

/-- VEHICLE_STATE (11.1, R201). -/
def readVehicle : List Byte → Option VehicleFields
  | [i, s, d] => some ⟨Ignition.ofByte i.toNat, if s.toNat = 255 then none else some s.toNat, bit d 0, bit d 1⟩
  | _ => none

/-- What a KEY_EVENT frame of good length says (11.1, 4.6). -/
inductive KeyEvent
  | lock (key : Fin 4) | unlock (key : Fin 4) | other
deriving DecidableEq, Repr

/-- KEY_EVENT; another kind or a key number above 3 is `other` (4.6). -/
def readKeyEvent : List Byte → Option KeyEvent
  | [k, n] =>
    if h : n.toNat < 4 then
      match k.toNat with
      | 1 => some (.lock ⟨n.toNat, h⟩)
      | 2 => some (.unlock ⟨n.toNat, h⟩)
      | _ => some .other
    else some .other
  | _ => none

/-- The buttons of a MEMORY_KEYS frame; true is pressed (11.1). -/
structure Buttons where
  set : Bool
  m1 : Bool
  m2 : Bool
  m3 : Bool
deriving DecidableEq, Repr

/-- The side a door field names (11.1, R201). -/
def doorSide : Nat → Option Side
  | 0 => some .left | 1 => some .right | _ => none

/-- MEMORY_KEYS: the side its door field names, none for 2–255 (R201), and the buttons. -/
def readMemoryKeys : List Byte → Option (Option Side × Buttons)
  | [d, b] => some (doorSide d.toNat, ⟨bit b 0, bit b 1, bit b 2, bit b 3⟩)
  | _ => none

/-- The fields of COMFORT_REQUEST (11.1). -/
structure ComfortFields where
  on : Bool
  program : Nat
  intensity : Nat
  cushion : Nat
  back : Nat
deriving DecidableEq, Repr

/-- COMFORT_REQUEST (11.1). -/
def readComfort : List Byte → Option ComfortFields
  | [s, p, i, c, b] => some ⟨bit s 0, p.toNat, i.toNat, c.toNat, b.toNat⟩
  | _ => none

/-- The massage cells a byte of MASSAGE_STREAM names: bit k is cell M(k+1) (11.1). -/
def cellSet (b : Byte) : List CellIx := Config.massageCells.filter fun c => bit b c.val

/-- One stream step (R137): fill set, vent set, hold in ms, peak in kPa. -/
structure StreamStep where
  fill : List CellIx
  vent : List CellIx
  hold : Nat
  peak : Nat
deriving DecidableEq, Repr

/-- MASSAGE_STREAM shaped by R137: a cell in both sets stays in the vent set, the hold is clamped to 100–5000 ms. -/
def readStream : List Byte → Option StreamStep
  | [f, v, h, l, p] =>
    some ⟨(cellSet f).filter fun c => !(cellSet v).contains c, cellSet v, max 100 (min 5000 (word16 h l)), p.toNat⟩
  | _ => none

/-- PEER_STATUS: the budget-in-use field, above 400 taken as 400 (R6); only bytes 0–1 are used (11.1). -/
def readPeerStatus (data : List Byte) : Option Nat :=
  match data with
  | h :: l :: _ => if data.length = 8 then some (min (word16 h l) 400) else none
  | _ => none

/-- PROFILE_DATA: index and the seven bytes (11.1). -/
def readProfileData : List Byte → Option (Nat × List Byte)
  | [i, a, b, c, d, e, f, g] => some (i.toNat, [a, b, c, d, e, f, g])
  | _ => none

/-! ### The profile record (R78, R79, 11.4) -/

/-- One bit of the CRC: the register is shifted left and the polynomial x^16 + x^12 + x^5 + 1 applied (R79). -/
def crcShift (r : Nat) : Nat :=
  if r % 65536 < 32768 then r * 2 % 65536 else (r * 2 % 65536) ^^^ 0x1021

/-- One byte of the CRC, most significant bit first (R79). -/
def crcByte (r : Nat) (b : Byte) : Nat :=
  crcShift (crcShift (crcShift (crcShift (crcShift (crcShift (crcShift (crcShift (r ^^^ (b.toNat * 256)))))))))

/-- The CRC-16 of R79: the register starts at FFFFh, and nothing is inverted at the end. -/
def crc16 (bytes : List Byte) : Nat := bytes.foldl crcByte 0xFFFF

/-- A profile record by name (R78). -/
structure Profile where
  version : Nat
  slot : Nat
  source : Nat
  generation : Nat
  /-- The presence byte (11.4). -/
  presence : Byte
  /-- Seven positions in axis index order. -/
  positions : List Nat
  lumbarUpper : Nat
  lumbarLower : Nat
  bolster : Nat
  /-- Program and intensity. -/
  massage : Option (Nat × Nat)
  /-- Cushion and back level. -/
  heat : Option (Nat × Nat)
deriving DecidableEq, Repr

/-- The bytes in pairs, as 16-bit numbers. -/
def pairWords : List Byte → List Nat
  | h :: l :: rest => word16 h l :: pairWords rest
  | _ => []

/-- Byte `i` of a list, 0 beyond its end. -/
def byteAt (bytes : List Byte) (i : Nat) : Nat := (bytes.getD i 0).toNat

/-- The record that bytes 0–25 of a slot spell (11.4). -/
def Profile.ofBytes (b : List Byte) : Profile where
  version := byteAt b 0
  slot := byteAt b 1
  source := byteAt b 2
  generation := byteAt b 3 * 256 + byteAt b 4
  presence := b.getD 5 0
  positions := pairWords ((b.drop 6).take 14)
  lumbarUpper := byteAt b 20
  lumbarLower := byteAt b 21
  bolster := byteAt b 22
  massage := if byteAt b 23 = 255 then none else some (byteAt b 23, byteAt b 24)
  heat := if byteAt b 25 = 255 then none else some (byteAt b 25 / 16, byteAt b 25 % 16)

/-- A number as two bytes, most significant first. -/
def twoBytes (n : Nat) : List Byte := [BitVec.ofNat 8 (n / 256), BitVec.ofNat 8 n]

/-- The 26 bytes of a record (11.4). -/
def Profile.bytes (p : Profile) : List Byte :=
  [BitVec.ofNat 8 p.version, BitVec.ofNat 8 p.slot, BitVec.ofNat 8 p.source] ++ twoBytes p.generation ++ [p.presence] ++
  p.positions.flatMap twoBytes ++
  [BitVec.ofNat 8 p.lumbarUpper, BitVec.ofNat 8 p.lumbarLower, BitVec.ofNat 8 p.bolster] ++
  (match p.massage with
    | some (prog, int) => [BitVec.ofNat 8 prog, BitVec.ofNat 8 int]
    | none => [0xFF, 0]) ++
  (match p.heat with
    | some (c, b) => [BitVec.ofNat 8 (c * 16 + b)]
    | none => [0xFF])

/-- The 28 bytes of a slot: the record and its check (R78, R79). -/
def Profile.withCheck (p : Profile) : List Byte := p.bytes ++ twoBytes (crc16 p.bytes)

/-- The stored check of 28 bytes (11.4). -/
def storedCheck (b : List Byte) : Nat := byteAt b 26 * 256 + byteAt b 27

/-- The read of slot `code` passes (R79): check, format version and slot field. -/
def readPasses (code : Nat) (b : List Byte) : Bool :=
  crc16 (b.take 26) == storedCheck b && byteAt b 0 == 1 && byteAt b 1 == code

/-- The axes of a presence byte (11.4). -/
def presentAxes (presence : Byte) : List Axis := Axis.all.filter fun a => bit presence a.index.val

/-- The stored position of an axis. -/
def Profile.position (p : Profile) (a : Axis) : Nat := p.positions.getD a.index.val 0

/-- The field tests of an import that make IMPORT_FORMAT (R99). -/
def Profile.inRange (p : Profile) : Bool :=
  p.version == 1 &&
  (presentAxes p.presence).all (fun a => p.position a ≤ Config.travel a) &&
  p.lumbarUpper ≤ 10 && p.lumbarLower ≤ 10 && p.bolster ≤ 5 &&
  (match p.massage with
    | some (prog, int) => Config.knownProgram prog && 1 ≤ int && int ≤ 5
    | none => true) &&
  (match p.heat with
    | some (c, b) => c ≤ 3 && b ≤ 3
    | none => true)

/-! ### Service request frames (11.1, R185) -/

/-- The length of the whole frame by request code; none for an unknown code (11.1). -/
def requestLength : Nat → Option Nat
  | 0x01 => some 2 | 0x02 => some 2 | 0x03 => some 5 | 0x04 => some 3 | 0x05 => some 1 | 0x06 => some 2 | 0x07 => some 2
  | 0x08 => some 2 | 0x09 => some 2 | 0x0A => some 1 | 0x0B => some 1 | 0x0C => some 2 | 0x0D => some 8 | 0x0E => some 1
  | _ => none

/-- The command a SERVICE_REQUEST frame of known code and good length is (11.1). -/
def readRequest : List Byte → Option Instr
  | [c] => match c.toNat with
    | 0x05 => some .stopAll
    | 0x0A => some .postcrashRelease
    | 0x0B => some .clearFaults
    | 0x0E => some .restart
    | _ => none
  | [c, p] => match c.toNat with
    | 0x01 => some (.queryBudget p)
    | 0x02 => some (.queryAxis p)
    | 0x06 => some (.profileExport p)
    | 0x07 => some (.profileImport p)
    | 0x08 => some (.profileErase p)
    | 0x09 => some (.queryCells p)
    | 0x0C => some (.queryFaults p)
    | _ => none
  | [c, p, t] => if c.toNat = 0x04 then some (.homeAxis p t) else none
  | [c, a, h, l, t] => if c.toNat = 0x03 then some (.moveAxis a (h ++ l) t) else none
  | [c, v, f, b, n, r, ct, bt] => if c.toNat = 0x0D then some (.configure v f b n r ct bt) else none
  | _ => none

end Sys2Proof
end

