-- ==== Sys2Proof/Machine/State.lean ====
section
/-!
DEFINITION. The state of the part as plain data, block by block, and the machine right after reset.
A running timer is held as its deadline on the model's clock; `none` is a stopped timer.
-/
namespace Sys2Proof.Machine

open Sys2Proof

/-! ### Budget allocator (chapter 1) -/

/-- The supply bands (1.2). -/
inductive Band
  | high | normal | low | critical
deriving DecidableEq, Repr

/-- The claim classes P0–P5 (1.4). -/
inductive Cls
  | p0 | p1 | p2 | p3 | p4 | p5
deriving DecidableEq, Repr

/-- The claimants of indivisible claims: the axes and the pump (1.4). -/
inductive Load
  | axis (a : Axis) | pump
deriving DecidableEq, Repr

/-- The phase of a motor grant (1.4). -/
inductive Phase
  | start | run
deriving DecidableEq, Repr

/-- Why a grant was revoked (R13, R17–R20). -/
inductive RevokeCause
  | budget | supply | protect
deriving DecidableEq, Repr

/-- A motor or pump grant; its place is its place in the list of grants (1.4). -/
structure Grant where
  load : Load
  cls : Cls
  amount : Nat
  phase : Phase
deriving DecidableEq, Repr

/-- A claim-queue entry (R14). -/
structure Claim where
  load : Load
  cls : Cls
  amount : Nat
  arrived : Time
deriving DecidableEq, Repr

/-- What the allocator holds of its own (1.3, 1.4). -/
structure Alloc where
  /-- Motor and pump grants, oldest first. -/
  grants : List Grant
  /-- The claim queue (R14). -/
  queue : List Claim
  cushionClaim : Nat
  cushionGrant : Nat
  backClaim : Nat
  backGrant : Nat
deriving DecidableEq, Repr

/-! ### Peer view (9.3) -/

/-- The ENERGY_ALLOWANCE record; STALE while `staleAt` is none (R5). -/
structure EnergyRec where
  allowance : Allowance
  shed : Bool
  staleAt : Option Time
deriving DecidableEq, Repr

/-- A peer station's contribution (R6). -/
structure StationRec where
  use : Nat
  staleAt : Option Time
deriving DecidableEq, Repr

/-- The VEHICLE_STATE record; while STALE it holds its stale values (9.3). -/
structure VehicleRec where
  fields : VehicleFields
  staleAt : Option Time
deriving DecidableEq, Repr

/-- The COMFORT_REQUEST record; it keeps its values while STALE (R178). -/
structure ComfortRec where
  fields : Option ComfortFields
  staleAt : Option Time
deriving DecidableEq, Repr

/-- The PRECRASH record, kept by the level check (R159, R160). -/
structure PrecrashRec where
  level : PrecrashLevel
  counter : Option Nat
  staleAt : Option Time
deriving DecidableEq, Repr

/-- The peer view; the values of MEMORY_KEYS are the kept button states of the profile store. -/
structure Peers where
  energy : EnergyRec
  stations : Vector StationRec 4
  vehicle : VehicleRec
  memoryKeysUntil : Option Time
  comfort : ComfortRec
  precrash : PrecrashRec
deriving DecidableEq, Repr

/-! ### Motion controller (chapters 2 and 3) -/

inductive Drive
  | idle | starting | running | coasting | braking | fault
deriving DecidableEq, Repr

/-- The drive forms (2.4). -/
inductive Form
  | normal | fast | rescue50 | timed | corrective
deriving DecidableEq, Repr

/-- A drive order (2.4). -/
structure Order where
  dir : Dir
  form : Form
  stop : Option Int
  obstruct : Bool
deriving DecidableEq, Repr

/-- The sources of an operation (R50). -/
inductive Source
  | switch | recall | easy | restore | protect | home | service
deriving DecidableEq, Repr

/-- The kinds of an operation (R50). -/
inductive OpKind
  | jog | target | home | timed
deriving DecidableEq, Repr

/-- The profiles of an operation (R50). -/
inductive OpProfile
  | normal | fast | rescue50
deriving DecidableEq, Repr

/-- The states of a current operation (R51); an ENDED operation is no longer held (R52). -/
inductive OpState
  | waiting | moving | settling | correcting | returning
deriving DecidableEq, Repr

/-- An operation record (R50); its axis is the axis that holds it. -/
structure Op where
  source : Source
  kind : OpKind
  dir : Dir
  target : Option Int
  profile : OpProfile
  tag : Nat
  /-- It serves a member of the held sequence. -/
  member : Bool
  state : OpState
  startPos : Int
  /-- The stall position of a HOME operation (R48). -/
  stallPos : Int
  startTimer : Option Time
  obstructed : Bool
  corrected : Bool
  /-- It has made a start claim that has not yet led to drive (R55). -/
  claimed : Bool
  /-- It has driven its axis (R28). -/
  driven : Bool
deriving DecidableEq, Repr

/-- An axis record (2.3). -/
structure AxisRec where
  position : Int
  referenced : Bool
  drive : Drive
  lastDir : Dir
  tally : Nat
  plausible : Nat
  intervals : List Nat
  driveEdges : Nat
  opEdges : Nat
  op : Option Op
  order : Option Order
  pendingFault : Bool
  braked : Bool
  /-- End of the start interval, the coast or the brake. -/
  phaseEnd : Option Time
  stallAt : Option Time
  timedEnd : Option Time
  /-- Entry to STARTING of the present or last drive (R33). -/
  startedAt : Time
  /-- When the last edge was taken; none before the first (R43). -/
  lastEdge : Option Time
  /-- The present BRAKING follows a drive (R37). -/
  afterDrive : Bool
  /-- The present COASTING is the deadband of a supply reset (R27). -/
  resetDeadband : Bool
deriving DecidableEq, Repr

/-- Completion codes of operations and sequences, in the order of the table of 3.9. -/
inductive Code
  | done | partly | targetMissed | stalled | noMotion | obstructed | preempted | superseded | abortedSwitch
  | abortedButton | abortedSpeed | stopped | restarted | stoppedBudget | supply | budgetTimeout | referenceLost
  | homeFailed | refusedAbsent | refusedFault | refusedState | refusedBusy | refusedUnreferenced
deriving DecidableEq, Repr

/-- The kinds of a sequence (R67). -/
inductive SeqKind
  | recall | easy | restore | home | protect
deriving DecidableEq, Repr

/-- The states of a member (R67). -/
inductive MemberState
  | pending | active | ended (code : Code)
deriving DecidableEq, Repr

/-- A member of a sequence (R67). -/
structure Member where
  axis : Axis
  kind : OpKind
  /-- The target of a TARGET member. -/
  target : Int
  /-- The direction of a TIMED member. -/
  dir : Dir
  state : MemberState
  /-- It has been offered (R68); a member never offered joins the skipped set (R69). -/
  offered : Bool
  /-- Its axis has entered RUNNING for its first drive (R68). -/
  running : Bool
deriving DecidableEq, Repr

/-- The sequence record (R67); its creating block follows from its kind (3.8). -/
structure Sequence where
  kind : SeqKind
  tag : Nat
  members : List Member
deriving DecidableEq, Repr

/-- What the motion controller holds. -/
structure Motion where
  axes : Vector AxisRec 7
  /-- The admission wait, in the order of R55. -/
  admission : List Axis
  sequence : Option Sequence
deriving DecidableEq, Repr

/-! ### Profile store (chapter 4) -/

inductive SlotState
  | empty | valid | corrupt | writing
deriving DecidableEq, Repr

/-- A slot of the nonvolatile area (R77, R78, R80). -/
structure Slot where
  state : SlotState
  /-- The stored 28 bytes, empty where no record is stored. -/
  bytes : List Byte
  generation : Nat
deriving DecidableEq, Repr

/-- The actions of PROFILE_EVENT, in the order of R83. -/
inductive Action
  | store | keyStore | recall | keyRecall | easyExit | easyEntry | erase | importing
deriving DecidableEq, Repr

/-- The write in flight (R81). -/
structure Write where
  slot : Fin 7
  action : Action
  /-- The record to be stored; empty for an erase. -/
  bytes : List Byte
  endsAt : Time
deriving DecidableEq, Repr

/-- The key-recall window (R92). -/
structure KeyWindow where
  key : Fin 4
  closesAt : Time
deriving DecidableEq, Repr

/-- The comfort copy (R91): massage and heat preference. -/
structure ComfortCopy where
  massage : Option (Nat × Nat)
  heat : Option (Nat × Nat)
deriving DecidableEq, Repr

/-- The import assembly (R98). -/
structure Assembly where
  slot : Fin 7
  next : Nat
  bytes : List Byte
  closesAt : Time
deriving DecidableEq, Repr

/-- A profile being sent (R97): the 28 bytes and the index of the next frame. -/
structure Exporting where
  bytes : List Byte
  next : Nat
deriving DecidableEq, Repr

/-- What the profile store holds. -/
structure Store where
  slots : Vector Slot 7
  write : Option Write
  storeWindow : Option Time
  keyWindow : Option KeyWindow
  armed : Bool
  returnPoint : Option Int
  comfortCopy : Option ComfortCopy
  mask : Bool
  buttons : Buttons
  assembly : Option Assembly
  exporting : Option Exporting
deriving DecidableEq, Repr

/-! ### Pneumatic controller (chapter 5) -/

inductive CellState
  | vented | holding | filling | venting | measuring
deriving DecidableEq, Repr

/-- The phases of an adjustment, in the order of R121. -/
inductive AdjPhase
  | measure | fill | vent | pending
deriving DecidableEq, Repr

/-- The cause of an adjustment (R116). -/
inductive AdjCause
  | level | leak
deriving DecidableEq, Repr

/-- An adjustment (R116); its cell is the cell that holds it. -/
structure Adjustment where
  target : Nat
  count : Nat
  phase : AdjPhase
  cause : AdjCause
deriving DecidableEq, Repr

/-- A cell record (R103), with the support cell's adjustment and leak timer (R116, R118). -/
structure Cell where
  state : CellState
  last : Option Nat
  /-- When `last` was set; its age grows from there. -/
  lastAt : Time
  ventEnd : Option Time
  ventFull : Bool
  adj : Option Adjustment
  leakAt : Option Time
deriving DecidableEq, Repr

/-- The classes of a manifold operation, highest first (R105). -/
inductive AirClass
  | protect | support | massage
deriving DecidableEq, Repr

/-- How a FILL or MEASURE ends (R107, R108, R111, R112). -/
inductive AirEnd
  | target | relief | limit | failed | aborted | withdrawn
deriving DecidableEq, Repr

/-- A FILL (R105). -/
structure Fill where
  cls : AirClass
  cells : List CellIx
  target : Nat
  /-- The time limit, in ms. -/
  limit : Nat
  confirmed : Bool
  baseline : Nat
  /-- The reading with which the present pumping began, until the sensor tells one; none otherwise. -/
  opening : Option Nat
  /-- Unconfirmed and confirmed pump running time before the present pumping, in µs. -/
  unconfirmedTime : Time
  confirmedTime : Time
  /-- Since when the present kind of time runs, while PUMPING. -/
  since : Time
  suspended : Bool
deriving DecidableEq, Repr

/-- A manifold-queue entry (R106); every MEASURE is a support MEASURE. -/
inductive AirEntry
  | fill (f : Fill) | measure (c : CellIx)
deriving DecidableEq, Repr

/-- The manifold state with its active operation (R105). -/
inductive Manifold
  | idle | fillWait (f : Fill) | pumping (f : Fill) | measuring (c : CellIx) (settleAt : Time)
deriving DecidableEq, Repr

/-- The bolster hold (R119). -/
inductive BolsterHold
  | none | protect | postcrash
deriving DecidableEq, Repr

/-- What the pneumatic controller holds. -/
structure Pneu where
  cells : Vector Cell 14
  manifold : Manifold
  queue : List AirEntry
  lumbarUpper : Nat
  lumbarLower : Nat
  bolster : Nat
  hold : BolsterHold
  accepted : List CellIx
  failed : List CellIx
  levelEnded : Bool
  sensor : Nat
deriving DecidableEq, Repr

/-! ### Massage sequencer (chapter 6) -/

inductive MassageState
  | off | running | paused | venting
deriving DecidableEq, Repr

/-- The reasons of MASSAGE_STATE, in the order of the table of R141. -/
inductive MassageReason
  | start | recall | resume | pause | request | timeout | ignition | streamStale | pumpFault | crash | absent | restart
  | refusedAbsent | refusedState | refusedShed | setting
deriving DecidableEq, Repr

/-- The phase of a step (R123). -/
inductive StepPhase
  | fill | hold
deriving DecidableEq, Repr

/-- The step in play (R123, R130); `index` is the step index of a built-in program, none for a stream or HOLD step. -/
structure Step where
  index : Option Nat
  fill : List CellIx
  vent : List CellIx
  hold : Nat
  peak : Nat
  phase : StepPhase
deriving DecidableEq, Repr

/-- What the massage sequencer holds (R123). -/
structure Massage where
  state : MassageState
  program : Nat
  pendingProgram : Option Nat
  intensity : Nat
  step : Option Step
  stepEnded : Bool
  byPump : Bool
  byShed : Bool
  byProtect : Bool
  sessionEnd : Option Time
  holdEnd : Option Time
  ventingEnd : Option Time
  watch : Option Time
  queue : List StreamStep
  /-- Switch, program and intensity of the last accepted COMFORT_REQUEST (R125). -/
  baseline : Option (Bool × Nat × Nat)
  /-- The reason of the VENTING in force, sent again at the OFF that follows it (R135). -/
  reason : MassageReason
deriving DecidableEq, Repr

/-! ### Heater controller (chapter 7) -/

/-- The sensor fault of a zone (R146). -/
inductive SensorFault
  | none | opened | short
deriving DecidableEq, Repr

/-- A zone record (R143). -/
structure ZoneRec where
  level : Nat
  held : Option Nat
  stepDown : Option Time
  t10 : Option Int
  fault : SensorFault
  validRun : Nat
  cutoff : Bool
  dutyReq : Nat
  /-- The duty of the present output period (R151). -/
  applied : Nat
  /-- When the measurement in progress began (R144). -/
  measuring : Option Time
deriving DecidableEq, Repr

/-- What the heater controller holds. -/
structure Heat where
  cushion : ZoneRec
  back : ZoneRec
  baseline : Option (Nat × Nat)
  intervalAt : Option Time
  periodAt : Option Time
  periodStart : Time
  /-- A heater output has been driven on since the last supply reset or RESTART (R151). -/
  driven : Bool
deriving DecidableEq, Repr

/-! ### Pre-crash unit (chapter 8) -/

inductive PcuState
  | normal | protecting | holding | restoring | postcrash
deriving DecidableEq, Repr

/-- The snapshot (R161). -/
structure Snapshot where
  entries : List (Axis × Int)
  bolster : Nat
  massage : MassageState
  program : Nat
deriving DecidableEq, Repr

/-- What the pre-crash unit holds (R161). -/
structure Pcu where
  state : PcuState
  snapshot : Option Snapshot
  holdEnd : Option Time
  holdExpired : Bool
  protectMark : Bool
  restoreMark : Bool
deriving DecidableEq, Repr

/-! ### Fault table (9.8) -/

/-- The fault kinds, in the order of the table of 9.8. -/
inductive FaultKind
  | supplyLow | supplyHigh | hallImplausible | noMotion | homeFailed | heaterOpen | heaterShort | heaterOvertemp
  | pumpNoPressure | profileCorrupt | frameFormat | linkOff | switchStuck | peerStale
deriving DecidableEq, Repr

/-- An entry of the fault table. -/
structure FaultId where
  kind : FaultKind
  index : Nat
deriving DecidableEq, Repr

/-- The entries whose live condition is present and those whose flag is latched, each a list with no repeats. -/
structure FaultTable where
  live : List FaultId
  latched : List FaultId
deriving DecidableEq, Repr

/-! ### Switch scanner (10.1) -/

/-- The condition of a switch position (R191). -/
inductive SwitchCond
  | normal | heldAtReset | stuck
deriving DecidableEq, Repr

/-- A switch record (R191). -/
structure SwitchRec where
  /-- The contact pin; true is closed. -/
  contact : Bool
  pressed : Bool
  cond : SwitchCond
  /-- A press was delivered and not yet released. -/
  delivered : Bool
  debounceAt : Option Time
  stuckAt : Option Time
  repeatAt : Option Time
  /-- The contact was closed at supply reset and its first 20 ms run (R193). -/
  atReset : Bool
deriving DecidableEq, Repr

/-- What the switch scanner holds. -/
structure Switches where
  records : Vector SwitchRec 20
  conflicts : Vector Bool 7
deriving DecidableEq, Repr

/-! ### Power mode controller (10.2–10.4) -/

inductive Mode
  | active | runOn | sleep
deriving DecidableEq, Repr

/-- The configuration in force (R198). -/
structure Configuration where
  variant : Fin 4
  fuse : Nat
  fallback : Nat
  concurrency : Nat
  longRunOn : Bool
  cushionTrim : Int
  backTrim : Int
deriving DecidableEq, Repr

/-- What the power mode controller holds. -/
structure Power where
  mode : Mode
  runOn : Option Time
  sleepPending : Bool
  /-- The configuration window is open while this is set (R198). -/
  window : Option Time
  config : Configuration
  node : Station
  side : Side
deriving DecidableEq, Repr

/-! ### Link controller (chapter 9) -/

/-- The event kinds, in the order of 11.2. -/
inductive EventKind
  | axisDone | sequenceDone | profileEvent | supportState | massageState | heatState | pcuState | fault
deriving DecidableEq, Repr

/-- Byte 0 of an item: the request code of a SERVICE_RESPONSE or the kind of a SEAT_EVENT (11.2). -/
inductive Head
  | answer (code : Nat) | event (kind : EventKind)
deriving DecidableEq, Repr

/-- An event-queue item with its content bytes (R182, R202). -/
structure Item where
  head : Head
  content : List Byte
deriving DecidableEq, Repr

/-- Where a loaded frame came from; `orphan` is a frame of an export that RESTART discarded (R180, R190). -/
inductive FrameSource
  | queue | status | exporting | orphan
deriving DecidableEq, Repr

/-- The frame offered to the bus (R180). -/
structure Loaded where
  source : FrameSource
  ident : Nat
  bytes : List Byte
  /-- A status that carries events_lost set (R182). -/
  lostShown : Bool
deriving DecidableEq, Repr

/-- Transmitter and event queue. -/
structure Link where
  queue : List Item
  /-- Segments of the head of the queue already sent (R202). -/
  sent : Nat
  lost : Bool
  lostSinceLoad : Bool
  tally : Nat
  offUntil : Option Time
  loaded : Option Loaded
  statusDue : Bool
  statusAt : Option Time
deriving DecidableEq, Repr

/-! ### The whole state -/

/-- The blocks of the part but the transmitter. `band` is none in supply reset (1.2). -/
structure Seat where
  now : Time
  band : Option Band
  peers : Peers
  alloc : Alloc
  motion : Motion
  store : Store
  pneu : Pneu
  massage : Massage
  heat : Heat
  pcu : Pcu
  faults : FaultTable
  switches : Switches
  power : Power
deriving DecidableEq, Repr

/-- The part, with the commands that wait for it. -/
structure State where
  seat : Seat
  link : Link
  /-- The commands that are waiting, first in, first out. -/
  pending : List Instr
deriving DecidableEq, Repr

/-- The part never stops: no command of it raises a fault of the machine, so this type has no constructor. -/
inductive Fault
deriving DecidableEq, Repr

/-- Why a command has no meaning. -/
inductive Refusal
  /-- A command not modelled yet; raised by `exec` alone; safe. No arm of `exec` raises it. -/
  | notModelled (mnemonic : String)
deriving DecidableEq, Repr

/-! ### Supply-reset values -/

/-- No grant, no claim (R22). -/
def Alloc.reset : Alloc := ⟨[], [], 0, 0, 0, 0⟩

/-- The stale values of VEHICLE_STATE (9.3). -/
def VehicleRec.stale : VehicleRec := ⟨⟨.off, none, false, false⟩, none⟩

/-- Every record STALE (R178, R22, R175). -/
def Peers.reset : Peers where
  energy := ⟨.value 0, false, none⟩
  stations := Vector.replicate 4 ⟨0, none⟩
  vehicle := VehicleRec.stale
  memoryKeysUntil := none
  comfort := ⟨none, none⟩
  precrash := ⟨.none, none, none⟩

/-- The values of R27, entered at `now`. -/
def AxisRec.reset (now : Time) : AxisRec where
  position := 0
  referenced := false
  drive := .coasting
  lastDir := .low
  tally := 0
  plausible := 0
  intervals := []
  driveEdges := 0
  opEdges := 0
  op := none
  order := none
  pendingFault := false
  braked := false
  phaseEnd := some (now + Config.coastInterval)
  stallAt := none
  timedEnd := none
  startedAt := now
  lastEdge := none
  afterDrive := false
  resetDeadband := true

/-- The values of R27 and R76. -/
def Motion.reset (now : Time) : Motion := ⟨Vector.replicate 7 (AxisRec.reset now), [], none⟩

def Slot.blank : Slot := ⟨.empty, [], 0⟩

def Buttons.released : Buttons := ⟨false, false, false, false⟩

/-- The values of R101 over slots that the scan has settled. -/
def Store.reset (slots : Vector Slot 7) : Store where
  slots := slots
  write := none
  storeWindow := none
  keyWindow := none
  armed := false
  returnPoint := none
  comfortCopy := none
  mask := true
  buttons := Buttons.released
  assembly := none
  exporting := none

/-- A cell in supply reset: both its valves are closed and its pressure is not known (R197). -/
def Cell.unpowered (now : Time) : Cell := ⟨.holding, none, now, none, false, none, none⟩

/-- The start-up vent of a cell (R113, R122); its last pressure is absent until the vent ends (log entry 38). -/
def Cell.reset (now : Time) : Cell := ⟨.venting, none, now, some (now + Config.ventingTime), true, none, none⟩

/-- The values of R122; the sensor pin is as it was last told. -/
def Pneu.reset (now : Time) (sensor : Nat) : Pneu where
  cells := Vector.replicate 14 (Cell.reset now)
  manifold := .idle
  queue := []
  lumbarUpper := 0
  lumbarLower := 0
  bolster := 0
  hold := .none
  accepted := []
  failed := []
  levelEnded := false
  sensor := sensor

/-- The values of R142. -/
def Massage.reset : Massage where
  state := .off
  program := 0
  pendingProgram := none
  intensity := 3
  step := none
  stepEnded := false
  byPump := false
  byShed := false
  byProtect := false
  sessionEnd := none
  holdEnd := none
  ventingEnd := none
  watch := none
  queue := []
  baseline := none
  reason := .request

/-- The zone values of R158. -/
def ZoneRec.reset : ZoneRec := ⟨0, none, none, none, .none, 0, false, 0, 0, none⟩

/-- The values of R158; the control interval starts on leaving supply reset (R144). -/
def Heat.reset (now : Time) : Heat := ⟨ZoneRec.reset, ZoneRec.reset, none, some now, some now, now, false⟩

/-- The values of R175. -/
def Pcu.reset : Pcu := ⟨.normal, none, none, false, false, false⟩

/-- Every flag clear (R186). -/
def FaultTable.reset : FaultTable := ⟨[], []⟩

/-- A switch record after supply reset, by its contact (R193). -/
def SwitchRec.reset (now : Time) (contact : Bool) : SwitchRec :=
  if contact then ⟨true, false, .normal, false, some (now + Config.debounceTime), some (now + Config.stuckTime), none, true⟩
  else ⟨false, false, .normal, false, none, none, none, false⟩

/-- The values of R193 over the contact pins. -/
def Switches.reset (now : Time) (contacts : Vector Bool 20) : Switches :=
  ⟨contacts.map (SwitchRec.reset now), Vector.replicate 7 false⟩

/-- The default configuration (R198). -/
def Configuration.default : Configuration := ⟨0, 25, 10, 2, false, 0, 0⟩

/-- The run-on duration of a configuration (R194). -/
def Configuration.runOnTime (c : Configuration) : Time := if c.longRunOn then seconds 900 else seconds 180

/-- The part enters RUN_ON, with the configuration window open (R197, R198). -/
def Power.reset (now : Time) (node : Station) (side : Side) : Power where
  mode := .runOn
  runOn := some (now + Configuration.default.runOnTime)
  sleepPending := false
  window := some (now + Config.configWindowTime)
  config := Configuration.default
  node := node
  side := side

/-- The values of R182, R183 and R190: a status is due at once. -/
def Link.reset (now : Time) : Link := ⟨[], 0, false, false, 0, none, none, true, some (now + Config.statusPeriod)⟩

/-- The blocks as a supply reset leaves them (R197), left at `now` with the straps, first band, slots, contacts and
sensor given. -/
def Seat.atReset (now : Time) (node : Station) (side : Side) (band : Band) (slots : Vector Slot 7)
    (contacts : Vector Bool 20) (sensor : Nat) : Seat where
  now := now
  band := some band
  peers := Peers.reset
  alloc := Alloc.reset
  motion := Motion.reset now
  store := Store.reset slots
  pneu := Pneu.reset now sensor
  massage := Massage.reset
  heat := Heat.reset now
  pcu := Pcu.reset
  faults := FaultTable.reset
  switches := Switches.reset now contacts
  power := Power.reset now node side

/-- The part right after it has left supply reset: NODE 0, SIDE LEFT, band NORMAL, every slot marked empty as at delivery
(R77), every contact open (log entry 4). The status that is due is the one frame pending, so the arbiter has loaded it
(R180, R183), with the content of 11.3: band NORMAL, RUN_ON, the window open. -/
def State.reset : State where
  seat := Seat.atReset 0 0 .left .normal (Vector.replicate 7 Slot.blank) (Vector.replicate 20 false) 0
  link := { Link.reset 0 with loaded := some ⟨.status, 0x642, [0, 0, 5, 16, 0, 0, 0, 0], false⟩ }
  pending := []

end Sys2Proof.Machine
end

