-- ==== Sys2Proof/Machine/Operands.lean ====
section
/-!
DEFINITION. How the fields of events and answers are coded (R202): the place of each enumerated value in its owning list,
and the bytes of numbers, sets, flags and optional groups. Log entry 9 says which codings R202 leaves to be inferred.
-/
namespace Sys2Proof.Machine

open Sys2Proof

/-! ### Places of enumerated values -/

def Band.code : Band → Nat
  | .high => 0 | .normal => 1 | .low => 2 | .critical => 3

/-- The place of a class in the table of 1.4, P5 first. -/
def Cls.code : Cls → Nat
  | .p5 => 0 | .p4 => 1 | .p3 => 2 | .p2 => 3 | .p1 => 4 | .p0 => 5

def Phase.code : Phase → Nat
  | .start => 0 | .run => 1

def dirCode : Dir → Nat
  | .low => 0 | .high => 1

def Drive.code : Drive → Nat
  | .idle => 0 | .starting => 1 | .running => 2 | .coasting => 3 | .braking => 4 | .fault => 5

def Source.code : Source → Nat
  | .switch => 0 | .recall => 1 | .easy => 2 | .restore => 3 | .protect => 4 | .home => 5 | .service => 6

def OpKind.code : OpKind → Nat
  | .jog => 0 | .target => 1 | .home => 2 | .timed => 3

def OpState.code : OpState → Nat
  | .waiting => 0 | .moving => 1 | .settling => 2 | .correcting => 3 | .returning => 4

/-- The place of a completion code in the table of 3.9. -/
def Code.code : Code → Nat
  | .done => 0 | .partly => 1 | .targetMissed => 2 | .stalled => 3 | .noMotion => 4 | .obstructed => 5 | .preempted => 6
  | .superseded => 7 | .abortedSwitch => 8 | .abortedButton => 9 | .abortedSpeed => 10 | .stopped => 11 | .restarted => 12
  | .stoppedBudget => 13 | .supply => 14 | .budgetTimeout => 15 | .referenceLost => 16 | .homeFailed => 17
  | .refusedAbsent => 18 | .refusedFault => 19 | .refusedState => 20 | .refusedBusy => 21 | .refusedUnreferenced => 22

def SeqKind.code : SeqKind → Nat
  | .recall => 0 | .easy => 1 | .restore => 2 | .home => 3 | .protect => 4

def Action.code : Action → Nat
  | .store => 0 | .keyStore => 1 | .recall => 2 | .keyRecall => 3 | .easyExit => 4 | .easyEntry => 5 | .erase => 6
  | .importing => 7

/-- The results of PROFILE_EVENT, and the profile codes of answers (R83). -/
inductive ProfileResult
  | done | importDone | storeBusy | slotBusy | moving | state | speed | empty | corrupt | masked | importSequence
  | importTimeout | importAbandoned | importCrc | importFormat | importBusy
deriving DecidableEq, Repr

def ProfileResult.code : ProfileResult → Nat
  | .done => 0 | .importDone => 1 | .storeBusy => 2 | .slotBusy => 3 | .moving => 4 | .state => 5 | .speed => 6
  | .empty => 7 | .corrupt => 8 | .masked => 9 | .importSequence => 10 | .importTimeout => 11 | .importAbandoned => 12
  | .importCrc => 13 | .importFormat => 14 | .importBusy => 15

/-- The common result codes of service requests (9.7). -/
inductive Result
  | ok | badRequest | badValue | configClosed | busy | state | absent
deriving DecidableEq, Repr

def Result.code : Result → Nat
  | .ok => 0 | .badRequest => 1 | .badValue => 2 | .configClosed => 3 | .busy => 4 | .state => 5 | .absent => 6

def CellState.code : CellState → Nat
  | .vented => 0 | .holding => 1 | .filling => 2 | .venting => 3 | .measuring => 4

def AdjPhase.code : AdjPhase → Nat
  | .measure => 0 | .fill => 1 | .vent => 2 | .pending => 3

def AirClass.code : AirClass → Nat
  | .protect => 0 | .support => 1 | .massage => 2

def BolsterHold.code : BolsterHold → Nat
  | .none => 0 | .protect => 1 | .postcrash => 2

def Manifold.code : Manifold → Nat
  | .idle => 0 | .fillWait _ => 1 | .pumping _ => 2 | .measuring _ _ => 3

def MassageState.code : MassageState → Nat
  | .off => 0 | .running => 1 | .paused => 2 | .venting => 3

def MassageReason.code : MassageReason → Nat
  | .start => 0 | .recall => 1 | .resume => 2 | .pause => 3 | .request => 4 | .timeout => 5 | .ignition => 6
  | .streamStale => 7 | .pumpFault => 8 | .crash => 9 | .absent => 10 | .restart => 11 | .refusedAbsent => 12
  | .refusedState => 13 | .refusedShed => 14 | .setting => 15

/-- The status of a zone (R143). -/
inductive ZoneStatus
  | fault | cutoff | off | waiting | heating
deriving DecidableEq, Repr

def ZoneStatus.code : ZoneStatus → Nat
  | .fault => 0 | .cutoff => 1 | .off => 2 | .waiting => 3 | .heating => 4

/-- The reasons of HEAT_STATE (R157). -/
inductive HeatReason
  | request | recall | held | stepDown | ignition | crash | restart | refusedState | sensorFault | sensorOk | overtemp
  | overtempEnd
deriving DecidableEq, Repr

def HeatReason.code : HeatReason → Nat
  | .request => 0 | .recall => 1 | .held => 2 | .stepDown => 3 | .ignition => 4 | .crash => 5 | .restart => 6
  | .refusedState => 7 | .sensorFault => 8 | .sensorOk => 9 | .overtemp => 10 | .overtempEnd => 11

def PcuState.code : PcuState → Nat
  | .normal => 0 | .protecting => 1 | .holding => 2 | .restoring => 3 | .postcrash => 4

/-- The causes of PCU_STATE (R174). -/
inductive PcuCause
  | alert | none | stale | holdEnd | restoreEnd | recall | crash | release
deriving DecidableEq, Repr

def PcuCause.code : PcuCause → Nat
  | .alert => 0 | .none => 1 | .stale => 2 | .holdEnd => 3 | .restoreEnd => 4 | .recall => 5 | .crash => 6 | .release => 7

def FaultKind.code : FaultKind → Nat
  | .supplyLow => 0 | .supplyHigh => 1 | .hallImplausible => 2 | .noMotion => 3 | .homeFailed => 4 | .heaterOpen => 5
  | .heaterShort => 6 | .heaterOvertemp => 7 | .pumpNoPressure => 8 | .profileCorrupt => 9 | .frameFormat => 10
  | .linkOff => 11 | .switchStuck => 12 | .peerStale => 13

/-- The fault kinds in the order of the table of 9.8. -/
def FaultKind.all : List FaultKind :=
  [.supplyLow, .supplyHigh, .hallImplausible, .noMotion, .homeFailed, .heaterOpen, .heaterShort, .heaterOvertemp,
   .pumpNoPressure, .profileCorrupt, .frameFormat, .linkOff, .switchStuck, .peerStale]

def EventKind.code : EventKind → Nat
  | .axisDone => 0 | .sequenceDone => 1 | .profileEvent => 2 | .supportState => 3 | .massageState => 4 | .heatState => 5
  | .pcuState => 6 | .fault => 7

def Head.byte : Head → Byte
  | .answer c => BitVec.ofNat 8 c
  | .event k => BitVec.ofNat 8 k.code

/-! ### Fields as bytes (R202) -/

/-- A field of one byte. -/
def byte1 (n : Nat) : List Byte := [BitVec.ofNat 8 n]

/-- A field of one byte, FFh for none. -/
def optByte (n : Option Nat) : List Byte := [BitVec.ofNat 8 (n.getD 255)]

/-- A flag, 1 or 0. -/
def flagByte (b : Bool) : List Byte := [if b then 1 else 0]

/-- A number of two bytes, two's complement, most significant first. -/
def word2 (n : Int) : List Byte :=
  [BitVec.ofNat 8 ((n % 65536).toNat / 256), BitVec.ofNat 8 (n % 65536).toNat]

/-- A number of two bytes, 8000h for none. -/
def optWord2 (n : Option Int) : List Byte := word2 (n.getD 0x8000)

/-- Byte `i` of a bit map: bit `k` is member `8 * i + k`. -/
def mapByte (members : List Nat) (i : Nat) : Byte :=
  BitVec.ofNat 8 ((List.range 8).foldl (fun acc k => if members.contains (8 * i + k) then acc + 2 ^ k else acc) 0)

/-- A set as a bit map of `n` bytes. -/
def mapBytes (n : Nat) (members : List Nat) : List Byte := (List.range n).map (mapByte members)

/-- A set of axes, one byte. -/
def axesByte (axes : List Axis) : List Byte := mapBytes 1 (axes.map (·.index.val))

/-- A set of cells, two bytes. -/
def cellsBytes (cells : List CellIx) : List Byte := mapBytes 2 (cells.map (·.val))

/-- Whole units of `unit` µs left until `t`, rounded up; 0 when stopped (R129, R155). -/
def unitsLeft (unit : Time) (now : Time) (t : Option Time) : Option Nat :=
  t.map fun e => (e - now + unit - 1) / unit

/-! ### Frames on the bus (11.2) -/

/-- A frame of 8 bytes with unused bytes 0. -/
def pad8 (b : List Byte) : List Byte := (b ++ List.replicate 8 0).take 8

/-- How many frames an item is sent as: max(1, ceil(c / 6)) (R202). -/
def Item.segments (i : Item) : Nat := max 1 ((i.content.length + 5) / 6)

/-- Segment `n` of an item (11.2, R202). -/
def Item.segment (i : Item) (n : Nat) : List Byte :=
  pad8 ([i.head.byte, BitVec.ofNat 8 (n * 16 + i.segments % 16)] ++ (i.content.drop (6 * n)).take 6)

/-- Whether an item is a SERVICE_RESPONSE, sent on B+1, or a SEAT_EVENT, sent on B+3 (9.4). -/
def Item.isAnswer (i : Item) : Bool :=
  match i.head with
  | .answer _ => true
  | .event _ => false

end Sys2Proof.Machine
end

