-- ==== Sys2Proof/Machine/Flags.lean ====
section
/-!
DEFINITION. The fault table's flags: live conditions and latched flags (R186–R189).
-/
namespace Sys2Proof.Machine

open Sys2Proof

/-- Insert without repeating. -/
def insertNew (f : FaultId) (l : List FaultId) : List FaultId := if l.contains f then l else l ++ [f]

/-- A standing live condition becomes present (R186). -/
def FaultTable.setLive (t : FaultTable) (f : FaultId) : FaultTable := { t with live := insertNew f t.live }

/-- A live condition is removed; the latched flag stays (R186). -/
def FaultTable.clearLive (t : FaultTable) (f : FaultId) : FaultTable := { t with live := t.live.filter (· != f) }

/-- The flag is set (R186). -/
def FaultTable.latch (t : FaultTable) (f : FaultId) : FaultTable := { t with latched := insertNew f t.latched }

def FaultTable.isLatched (t : FaultTable) (f : FaultId) : Bool := t.latched.contains f

def FaultTable.isLive (t : FaultTable) (f : FaultId) : Bool := t.live.contains f

/-- CLEAR_FAULTS: the flags whose live condition is absent are cleared (R188). -/
def FaultTable.clearLatched (t : FaultTable) : FaultTable :=
  { t with latched := t.latched.filter t.isLive }

/-- The indexes of a kind in a set of entries (R189). -/
def indexesOf (k : FaultKind) (l : List FaultId) : List Nat := (l.filter (·.kind == k)).map (·.index)

/-- The kinds with an entry in a set, by their number (R189). -/
def kindsOf (l : List FaultId) : List Nat := (FaultKind.all.filter fun k => l.any (·.kind == k)).map (·.code)

/-- The indexes of the receive sources (9.1). -/
def srcPrecrash : Nat := 0
def srcEnergy : Nat := 1
def srcVehicle : Nat := 2
def srcKeyEvent : Nat := 3
def srcMemoryKeys : Nat := 4
def srcComfort : Nat := 5
def srcStream : Nat := 6
def srcPeerStatus : Nat := 7
def srcService : Nat := 8
def srcProfileData : Nat := 9

end Sys2Proof.Machine
end

