-- ==== Sys2Proof/Machine/Allocator.lean ====
section
/-!
DEFINITION. The budget allocator (chapter 1): arrival, queue, walk, leftover, shed, and the events it takes.
Every function works on the allocator's own state and the notices it owes the owning blocks.
-/
namespace Sys2Proof.Machine

open Sys2Proof

/-- The order of the classes (00 'Classes'). -/
def Cls.rank : Cls → Nat
  | .p0 => 0 | .p1 => 1 | .p2 => 2 | .p3 => 3 | .p4 => 4 | .p5 => 5

/-- What the allocator tells the owning block of a claimant (R20). -/
inductive GrantNotice
  | granted (l : Load)
  | revoked (l : Load) (cause : RevokeCause)
deriving DecidableEq, Repr

/-- What the allocator reads of the other blocks: the load ceiling L (R7), whether the pre-crash unit is PROTECTING, the
band in force, and the time of the event. -/
structure AllocEnv where
  ceiling : Nat
  protecting : Bool
  band : Option Band
  now : Time
deriving DecidableEq, Repr

/-- The allocator inside one event, with the notices it owes. -/
structure Allocating extends Alloc where
  notes : List GrantNotice
deriving DecidableEq, Repr

/-! ### Sums and lookups -/

/-- The sum of a list of motor and pump grants. -/
def grantSum (l : List Grant) : Nat := (l.map (·.amount)).sum

/-- The sum of all grants (R8). -/
def Alloc.total (al : Alloc) : Nat := al.cushionGrant + al.backGrant + grantSum al.grants

/-- The free amount: L less the sum of grants (R8). -/
def AllocEnv.free (env : AllocEnv) (al : Alloc) : Nat := env.ceiling - al.total

/-- The grant a claimant holds. -/
def Alloc.grantOf (al : Alloc) (l : Load) : Option Grant := al.grants.find? (·.load == l)

/-- The queue entry of a claimant. -/
def Alloc.entryOf (al : Alloc) (l : Load) : Option Claim := al.queue.find? (·.load == l)

def Alloc.holds (al : Alloc) (l : Load) : Bool := al.grants.any (·.load == l)

def Alloc.queued (al : Alloc) (l : Load) : Bool := al.queue.any (·.load == l)

/-- The claim of a heater zone (R11). -/
def Alloc.heatClaim (al : Alloc) : Zone → Nat
  | .cushion => al.cushionClaim | .back => al.backClaim

/-- The grant of a heater zone (R11). -/
def Alloc.heatGrant (al : Alloc) : Zone → Nat
  | .cushion => al.cushionGrant | .back => al.backGrant

/-- A motor of a class below `p`, or the pump if its class is below `p`: a grant an arrival of class `p` may take (R12). -/
def Grant.below (p : Cls) (g : Grant) : Bool := g.cls.rank < p.rank

/-! ### Restrictions (R17, R18) -/

/-- Band and pre-crash state permit a new grant of class `c`. -/
def AllocEnv.permits (env : AllocEnv) (c : Cls) : Bool :=
  if env.protecting then c == .p5
  else match env.band with
    | some .normal => true
    | some .low | some .critical => c == .p5
    | some .high | none => false

/-- Heater grants are permitted (R16–R18). -/
def AllocEnv.heatersPermitted (env : AllocEnv) : Bool := !env.protecting && env.band == some .normal

/-! ### The claim queue (R14) -/

/-- An entry joins after every entry of its class or a higher one. -/
def enqueueClaim (c : Claim) (q : List Claim) : List Claim :=
  q.takeWhile (fun e => c.cls.rank ≤ e.cls.rank) ++ [c] ++ q.dropWhile (fun e => c.cls.rank ≤ e.cls.rank)

/-- The claimant holds neither grant nor entry from here on. -/
def Allocating.strip (l : Load) (a : Allocating) : Allocating :=
  { a with grants := a.grants.filter (·.load != l), queue := a.queue.filter (·.load != l) }

/-! ### Taking current -/

/-- Reduce the back heater and then the cushion heater by as much as is needed to reach a sum of at most `limit`. -/
def Allocating.trimHeaters (limit : Nat) (a : Allocating) : Allocating :=
  let cutBack := min a.backGrant (a.total - limit)
  let a := { a with backGrant := a.backGrant - cutBack }
  let cutCushion := min a.cushionGrant (a.total - limit)
  { a with cushionGrant := a.cushionGrant - cutCushion }

/-- Revoke one grant whole (R20). A revoked pump claim rejoins the queue as a new arrival of the same class, without a
test (R10). -/
def Allocating.revoke (env : AllocEnv) (cause : RevokeCause) (g : Grant) (a : Allocating) : Allocating :=
  let a := { a with grants := a.grants.filter (·.load != g.load), notes := a.notes ++ [.revoked g.load cause] }
  match g.load with
  | .pump => { a with queue := enqueueClaim ⟨.pump, g.cls, g.amount, env.now⟩ a.queue }
  | .axis _ => a

/-- Revoke the grants of a list in its order, stopping as soon as the sum is at most `limit`. -/
def Allocating.revokeUntil (env : AllocEnv) (cause : RevokeCause) (limit : Nat) (victims : List Grant)
    (a : Allocating) : Allocating :=
  victims.foldl (fun a g => if a.total ≤ limit then a else a.revoke env cause g) a

/-- The motors of class `c`, newest grant first. -/
def motorsOf (c : Cls) (l : List Grant) : List Grant :=
  (l.filter fun g => g.cls == c && g.load != .pump).reverse

/-- The pump's grant, if it is of a class below `p`. -/
def pumpBelow (p : Cls) (l : List Grant) : List Grant :=
  l.filter fun g => g.load == .pump && g.below p

/-- The order of R13, step 4, after the heaters: the pump below `p`, then motors below `p`, lowest class first and newest
grant first within a class. -/
def arrivalVictims (p : Cls) (l : List Grant) : List Grant :=
  pumpBelow p l ++ (([.p0, .p1, .p2, .p3, .p4] : List Cls).filter (·.rank < p.rank)).flatMap fun c => motorsOf c l

/-- The order of R19 after the heaters: the pump unless P5, motors of P3, motors of P4, grants of P5. -/
def shedVictims (l : List Grant) : List Grant :=
  pumpBelow .p5 l ++ motorsOf .p3 l ++ motorsOf .p4 l ++ (l.filter (·.cls == .p5)).reverse

/-! ### Arrival, walk and leftover (R13, R15, R16) -/

/-- What an arrival of class `p` may reclaim (R13, step 3). -/
def Alloc.reclaimable (al : Alloc) (p : Cls) : Nat :=
  al.cushionGrant + al.backGrant + grantSum (al.grants.filter (·.below p))

/-- Give a claim its grant, newest in the order. -/
def Allocating.give (c : Claim) (a : Allocating) : Allocating :=
  { a with grants := a.grants ++ [⟨c.load, c.cls, c.amount, .start⟩], notes := a.notes ++ [.granted c.load] }

/-- The test of R13: the claim is granted, taking current where it must and may, or none where it cannot be. -/
def Allocating.tryGrant (env : AllocEnv) (c : Claim) (a : Allocating) : Option Allocating :=
  if !env.permits c.cls then none
  else if a.total + c.amount ≤ env.ceiling then some (a.give c)
  else if env.free a.toAlloc + a.reclaimable c.cls < c.amount then none
  else
    let a := a.trimHeaters (env.ceiling - c.amount)
    let a := a.revokeUntil env .budget (env.ceiling - c.amount) (arrivalVictims c.cls a.grants)
    if a.total + c.amount ≤ env.ceiling then some (a.give c) else none

/-- An arrival: granted, or it joins the queue (R13). -/
def Allocating.arrive (env : AllocEnv) (c : Claim) (a : Allocating) : Allocating :=
  (a.tryGrant env c).getD { a with queue := enqueueClaim c a.queue }

/-- The leftover step of R16. -/
def Allocating.leftover (env : AllocEnv) (a : Allocating) : Allocating :=
  if a.queue.isEmpty && env.heatersPermitted then
    let a := { a with cushionGrant := max a.cushionGrant (min a.cushionClaim (a.cushionGrant + env.free a.toAlloc)) }
    { a with backGrant := max a.backGrant (min a.backClaim (a.backGrant + env.free a.toAlloc)) }
  else a

/-- The walk of R15. `tried` are the claimants tested without success, `bar` the class of the last that failed. Each turn
tests one entry, so the turns given bound the tests. -/
def Allocating.walkFrom (env : AllocEnv) : Nat → List Load → Option Cls → Allocating → Allocating
  | 0, _, _, a => a
  | n + 1, tried, bar, a =>
    match a.queue.find? (fun e => !tried.contains e.load) with
    | none => a
    | some e =>
      if bar.any (fun b => e.cls.rank < b.rank) then a
      else
        match Allocating.tryGrant env e { a with queue := a.queue.filter (·.load != e.load) } with
        | some a' => Allocating.walkFrom env n tried bar a'
        | none => Allocating.walkFrom env n (e.load :: tried) (some e.cls) a

/-- One walk of the claim queue, ending with the leftover step (R15, R16). The queue holds at most 8 entries (R14) and the
pump may rejoin it once, so 16 turns test them all. -/
def Allocating.walk (env : AllocEnv) (a : Allocating) : Allocating :=
  (a.walkFrom env 16 [] none).leftover env

/-! ### Shed and restrictions (R17–R19) -/

/-- The shed of R19: nothing where the sum of grants is within the load ceiling. -/
def Allocating.shed (env : AllocEnv) (cause : RevokeCause) (a : Allocating) : Allocating :=
  let a := a.trimHeaters env.ceiling
  a.revokeUntil env cause env.ceiling (shedVictims a.grants)

/-- The grants the band in force revokes (R17). -/
def Grant.restricted (band : Option Band) (g : Grant) : Bool :=
  match band with
  | some .normal => false
  | some .low => g.below .p3
  | some .critical => g.below .p5
  | some .high | none => true

/-- Apply the restrictions of the band in force, with cause SUPPLY (R17). The model revokes the oldest grant first (log
entry 29). -/
def Allocating.restrict (env : AllocEnv) (a : Allocating) : Allocating :=
  if env.protecting || env.band == some .normal then a
  else
    let a := { a with cushionGrant := 0, backGrant := 0 }
    (a.grants.filter (Grant.restricted env.band)).foldl (fun a g => a.revoke env .supply g) a

/-! ### The events at the allocator -/

/-- A new indivisible claim: an old grant is released, an old entry removed, and the claim taken as an arrival (R9). -/
def Allocating.claim (l : Load) (cls : Cls) (amount : Nat) (env : AllocEnv) (a : Allocating) : Allocating :=
  ((a.strip l).arrive env ⟨l, cls, amount, env.now⟩).walk env

/-- The claimant releases its grant or withdraws its entry, whichever it holds (R9, R14). -/
def Allocating.drop (l : Load) (env : AllocEnv) (a : Allocating) : Allocating :=
  if a.holds l || a.queued l then (a.strip l).walk env else a

/-- The claimant withdraws its queue entry only (R14). -/
def Allocating.withdraw (l : Load) (env : AllocEnv) (a : Allocating) : Allocating :=
  if a.queued l then Allocating.walk env { a with queue := a.queue.filter (·.load != l) } else a

/-- The step-down of an axis grant from the start claim to the run draw; the place is kept (R9). -/
def Allocating.stepDown (x : Axis) (env : AllocEnv) (a : Allocating) : Allocating :=
  if a.holds (.axis x) then
    Allocating.walk env { a with grants := a.grants.map fun g =>
      if g.load == (.axis x) then { g with amount := min g.amount (Config.runDraw x), phase := .run } else g }
  else a

/-- The class of the pump's claim, held or queued. -/
def Alloc.pumpClass (al : Alloc) : Option Cls := ((al.grantOf .pump).map (·.cls)).or ((al.entryOf .pump).map (·.cls))

/-- A change of the pump claim's class; nothing where the claim already has that class or there is none (R10, R104). -/
def Allocating.reclass (cls : Cls) (env : AllocEnv) (a : Allocating) : Allocating :=
  if a.pumpClass == some cls then a
  else if a.holds .pump then
    Allocating.walk env { a with grants := a.grants.map fun g => if g.load == .pump then { g with cls := cls } else g }
  else if a.queued .pump then a.claim .pump cls Config.pumpDraw env
  else a

/-- A changed heater claim (R11). -/
def Allocating.setHeat (z : Zone) (amount : Nat) (env : AllocEnv) (a : Allocating) : Allocating :=
  Allocating.walk env <| match z with
    | .cushion => { a with cushionClaim := amount, cushionGrant := min a.cushionGrant amount }
    | .back => { a with backClaim := amount, backGrant := min a.backGrant amount }

/-- A recomputation of the ceiling: shed where L fell below the sum of grants, then the walk (R7, R19). -/
def Allocating.recompute (cause : RevokeCause) (env : AllocEnv) (a : Allocating) : Allocating :=
  (a.shed env cause).walk env

/-- A band change: restrictions, shed with cause SUPPLY, walk (R7, R17, R19). That the restrictions come before the shed is
the model's choice (log entry 29). -/
def Allocating.bandChange (env : AllocEnv) (a : Allocating) : Allocating :=
  ((a.restrict env).shed env .supply).walk env

/-- The pre-crash unit enters PROTECTING: heaters to 0, motors below P5 revoked with cause PROTECT, the pump left (R18);
the oldest grant first (log entry 29). -/
def Allocating.enterProtecting (env : AllocEnv) (a : Allocating) : Allocating :=
  let a := { a with cushionGrant := 0, backGrant := 0 }
  let a := (a.grants.filter fun g => g.load != .pump && g.below .p5).foldl (fun a g => a.revoke env .protect g) a
  (a.shed env .budget).walk env

/-- The pre-crash unit leaves PROTECTING: the ceiling is recomputed and the restrictions of the band applied (R18, log
entry 29). -/
def Allocating.leaveProtecting (env : AllocEnv) (a : Allocating) : Allocating :=
  ((a.shed env .budget).restrict env).walk env

/-- RESTART and entering SLEEP: grants released, queue emptied, no notices (R22). -/
def Alloc.clear (_ : Alloc) : Alloc := ⟨[], [], 0, 0, 0, 0⟩

end Sys2Proof.Machine
end

