-- ==== Sys2Proof/Machine/Ops.lean ====
section
/-!
DEFINITION. The operations the blocks share inside one step: the notices they exchange, the items they hand to the event
queue, the fault table, the ceiling, the calls of the allocator, and the reports to the power mode controller.
-/
namespace Sys2Proof.Machine

open Sys2Proof

/-- What one block tells another inside a step (log entry 7). -/
inductive Notice
  /-- A grant given or taken (R20). -/
  | budget (n : GrantNotice)
  /-- A member of the held sequence ended or its axis entered RUNNING (R68, R69). -/
  | sequence
  /-- A PROTECT or RESTORE sequence ended (R163, R169). -/
  | sequenceDone (k : SeqKind) (code : Code)
  /-- A SUPPORT FILL, or a MEASURE without a reading, ended (R112, R116). -/
  | supportEnd (c : CellIx) (e : AirEnd)
  /-- The reading of a MEASURE (R109). -/
  | supportReading (c : CellIx) (p : Nat)
  /-- A support vent ended (R113). -/
  | supportVent (c : CellIx)
  /-- The massage fill ended (R112, R131). -/
  | massageEnd (e : AirEnd)
  /-- The massage fill was suspended (R110). -/
  | massageSuspended
  /-- The massage fill resumed pumping (R110). -/
  | massageResumed
  /-- The manifold looks at its queue (R106). -/
  | manifold
deriving DecidableEq, Repr

/-- The part inside one step: its blocks, the notices not yet taken, and the items for the event queue. -/
structure Work extends Seat where
  inbox : List Notice
  out : List Item
deriving DecidableEq, Repr

/-- A step begins with nothing posted and nothing to send. -/
def Work.start (s : Seat) : Work := { s with inbox := [], out := [] }

def Work.post (w : Work) (n : Notice) : Work := { w with inbox := w.inbox ++ [n] }

/-- Hand an item to the link controller (R182). -/
def Work.emit (w : Work) (i : Item) : Work := { w with out := w.out ++ [i] }

/-- Send a SEAT_EVENT. -/
def Work.event (w : Work) (k : EventKind) (content : List Byte) : Work := w.emit ⟨.event k, content⟩

/-- The content of an answer: result code, refusing completion code or profile code, content (R202). -/
def answerItem (code : Nat) (r : Result) (sub : Option Nat) (content : List Byte) : Item :=
  ⟨.answer code, byte1 r.code ++ optByte sub ++ content⟩

/-- Answer a service request (R185). -/
def Work.answer (w : Work) (code : Nat) (r : Result) (sub : Option Nat) (content : List Byte) : Work :=
  w.emit (answerItem code r sub content)

/-- The clock stands at `t` or later: the moment a timer reached its limit (log entry 2). -/
def Work.reach (w : Work) (t : Time) : Work := { w with now := max w.now t }

/-- An expiry acts only while its timer runs, at the moment of its deadline (log entry 2). -/
def Work.expiry (w : Work) (timer : Option Time) (f : Work → Work) : Work :=
  match timer with
  | none => w
  | some t => f (w.reach t)

/-! ### Fault table (R186, R187) -/

/-- The FAULT event (R187). -/
def faultItem (t : FaultTable) (f : FaultId) : Item :=
  ⟨.event .fault, byte1 f.kind.code ++ byte1 f.index ++ word2 t.latched.length⟩

/-- The flag of an entry is latched, with a FAULT event, unless it is latched already (R186, R187). -/
def Work.latch (w : Work) (f : FaultId) : Work :=
  if w.faults.isLatched f then w
  else
    let t := w.faults.latch f
    Work.emit { w with faults := t } (faultItem t f)

/-- A live condition that is present only at this moment (R186). -/
def Work.raise (w : Work) (k : FaultKind) (index : Nat) : Work := w.latch ⟨k, index⟩

/-- A standing live condition becomes present (R186). -/
def Work.raiseLive (w : Work) (k : FaultKind) (index : Nat) : Work :=
  Work.latch { w with faults := w.faults.setLive ⟨k, index⟩ } ⟨k, index⟩

/-- A live condition is removed (R186). -/
def Work.clearLive (w : Work) (k : FaultKind) (index : Nat) : Work :=
  { w with faults := w.faults.clearLive ⟨k, index⟩ }

/-! ### The ceiling (R4–R7) -/

/-- F, in bu (R4). -/
def Seat.fuseCeiling (s : Seat) : Nat := s.power.config.fuse * 10

/-- The fallback allowance, in bu (R4). -/
def Seat.fallback (s : Seat) : Nat := s.power.config.fallback * 10

/-- U: the fresh contributions of the other stations (R6). -/
def Seat.othersUse (s : Seat) : Nat :=
  ((List.finRange 4).map fun n =>
    let r := s.peers.stations.get n
    if n != s.power.node && r.staleAt.isSome then r.use else 0).sum

/-- A_eff (R7). -/
def Seat.allowance (s : Seat) : Nat :=
  match s.peers.energy.staleAt, s.peers.energy.allowance with
  | some _, .unlimited => s.fuseCeiling
  | some _, .value g => g - s.othersUse
  | none, _ => s.fallback - s.othersUse

def Seat.protecting (s : Seat) : Bool := s.pcu.state == .protecting

/-- C, the ceiling in force (R7). -/
def Seat.ceiling (s : Seat) : Nat :=
  match s.band with
  | none | some .high => 0
  | some _ => if s.protecting then s.fuseCeiling else min s.fuseCeiling s.allowance

/-- L, the load ceiling (R7). -/
def Seat.loadCeiling (s : Seat) : Nat := s.ceiling - Config.reserve

/-- What the allocator reads of the other blocks. -/
def Seat.allocEnv (s : Seat) : AllocEnv := ⟨s.loadCeiling, s.protecting, s.band, s.now⟩

/-- Shed_comfort as in force: false while G is stale (R5). -/
def Seat.shedComfort (s : Seat) : Bool := s.peers.energy.staleAt.isSome && s.peers.energy.shed

/-- The ignition as held in the peer view (9.3). -/
def Seat.ignition (s : Seat) : Ignition := s.peers.vehicle.fields.ignition

/-- The speed gate passes: VEHICLE_STATE fresh and its speed at most 5 km/h (R89, R91). -/
def Seat.speedGate (s : Seat) : Bool :=
  s.peers.vehicle.staleAt.isSome && s.peers.vehicle.fields.speed.any (· ≤ 5)

/-- The variant in force. -/
def Seat.variant (s : Seat) : Fin 4 := s.power.config.variant

/-- An axis has a channel in the variant in force (R24). -/
def Seat.present (s : Seat) (a : Axis) : Bool := (Config.channelMap s.variant a).isSome

/-- The massage cells are absent in variant 3; the support cells are always present (R102). -/
def Seat.cellPresent (s : Seat) (c : CellIx) : Bool := s.variant != 3 || 8 ≤ c.val

/-! ### Calls of the allocator -/

/-- The allocator takes one event; its notices are posted (R20). -/
def Work.allocate (w : Work) (f : AllocEnv → Allocating → Allocating) : Work :=
  let r := f w.allocEnv { w.alloc with notes := [] }
  { w with alloc := r.toAlloc, inbox := w.inbox ++ r.notes.map Notice.budget }

/-! ### Reports to the power mode controller -/

/-- The run-on timer restarts at its full duration, cancelling a pending sleep (R194, R195). -/
def Work.restartRunOn (w : Work) : Work :=
  if w.power.mode == .runOn then
    { w with power := { w.power with runOn := some (w.now + w.power.config.runOnTime), sleepPending := false } }
  else w

/-- An output start closes the configuration window (R198). -/
def Work.outputStart (w : Work) : Work := { w with power := { w.power with window := none } }

/-! ### Records by name -/

def Seat.axis (s : Seat) (a : Axis) : AxisRec := s.motion.axes.get a.index

def Work.setAxis (w : Work) (a : Axis) (r : AxisRec) : Work :=
  { w with motion := { w.motion with axes := w.motion.axes.set a.index.val r a.index.isLt } }

def Seat.cell (s : Seat) (c : CellIx) : Cell := s.pneu.cells.get c

def Work.setCell (w : Work) (c : CellIx) (r : Cell) : Work :=
  { w with pneu := { w.pneu with cells := w.pneu.cells.set c.val r c.isLt } }

def Seat.zone (s : Seat) : Zone → ZoneRec
  | .cushion => s.heat.cushion | .back => s.heat.back

def Work.setZone (w : Work) (z : Zone) (r : ZoneRec) : Work :=
  match z with
  | .cushion => { w with heat := { w.heat with cushion := r } }
  | .back => { w with heat := { w.heat with back := r } }

def Seat.slot (s : Seat) (i : Fin 7) : Slot := s.store.slots.get i

def Work.setSlot (w : Work) (i : Fin 7) (r : Slot) : Work :=
  { w with store := { w.store with slots := w.store.slots.set i.val r i.isLt } }

/-- The slot code 1–7 (4.1). -/
def slotCode (i : Fin 7) : Nat := i.val + 1

/-- The slot of a code, none for 0 or above 7 (R97). -/
def slotOfCode (c : Nat) : Option (Fin 7) := if h : 1 ≤ c ∧ c ≤ 7 then some ⟨c - 1, by omega⟩ else none

def Seat.switch (s : Seat) (p : SwitchPos) : SwitchRec := s.switches.records.get p

def Work.setSwitch (w : Work) (p : SwitchPos) (r : SwitchRec) : Work :=
  { w with switches := { w.switches with records := w.switches.records.set p.val r p.isLt } }

/-! ### Snapshot entries (R161) -/

/-- An axis entry is removed from the snapshot (R167, R169). -/
def Snapshot.without (s : Snapshot) (a : Axis) : Snapshot := { s with entries := s.entries.filter (·.1 != a) }

def Work.dropSnapshotEntry (w : Work) (a : Axis) : Work :=
  { w with pcu := { w.pcu with snapshot := w.pcu.snapshot.map (·.without a) } }

end Sys2Proof.Machine
end

