-- ==== Sys2Proof/Machine/Motion.lean ====
section
/-!
DEFINITION. The motion controller: axis records, drive orders, hall counting, operations and admission (chapters 2 and 3).
-/
namespace Sys2Proof.Machine

open Sys2Proof

/-! ### Operations (R50) -/

/-- The class of a source's operations and claims (R50). -/
def Source.cls : Source → Cls
  | .switch => .p4
  | .protect => .p5
  | .recall | .easy | .restore | .service | .home => .p3

/-- The class of an operation (R50). -/
def Op.cls (o : Op) : Cls := o.source.cls

/-- The drive form of a profile (2.4). -/
def OpProfile.form : OpProfile → Form
  | .normal => .normal | .fast => .fast | .rescue50 => .rescue50

/-- The automatic sources for which the obstruction check applies (R45). -/
def Source.obstructable : Source → Bool
  | .recall | .easy | .restore | .service => true
  | .switch | .protect | .home => false

/-- A new operation record, WAITING (R51). -/
def Op.make (source : Source) (kind : OpKind) (dir : Dir) (target : Option Int) (profile : OpProfile) (tag : Nat)
    (member : Bool) : Op where
  source := source
  kind := kind
  dir := dir
  target := target
  profile := profile
  tag := tag
  member := member
  state := .waiting
  startPos := 0
  stallPos := 0
  startTimer := none
  obstructed := false
  corrected := false
  claimed := false
  driven := false

/-! ### The axis record -/

/-- An axis is driving while it is STARTING or RUNNING (2.4). -/
def AxisRec.driving (r : AxisRec) : Bool := r.drive == .starting || r.drive == .running

/-- IDLE or FAULT (R25, R76). -/
def AxisRec.resting (r : AxisRec) : Bool := r.drive == .idle || r.drive == .fault

/-- In FAULT, or the pending fault mark set: the axis takes no drive order (R28). -/
def AxisRec.faulty (r : AxisRec) : Bool := r.drive == .fault || r.pendingFault

/-- The waiting flag (2.3, R51): WAITING, or CORRECTING or RETURNING with a drive not yet started. -/
def AxisRec.waiting (r : AxisRec) : Bool :=
  match r.op with
  | none => false
  | some o =>
    match o.state with
    | .waiting => true
    | .correcting | .returning => r.order.isSome && !r.driving
    | .moving | .settling => false

/-- The remaining distance of a drive order, none without a stop point (R30). -/
def AxisRec.remaining (r : AxisRec) (o : Order) : Option Int :=
  o.stop.map fun s => match o.dir with
    | .high => s - r.position
    | .low => r.position - s

/-- The remaining distance is at or below `d`. -/
def AxisRec.within (r : AxisRec) (o : Order) (d : Int) : Bool := (r.remaining o).any (· ≤ d)

/-- The stop distance of a drive form (R33–R36). -/
def stopDistance (a : Axis) : Form → Int
  | .corrective => 0
  | .normal | .fast | .rescue50 | .timed => Config.coastAllowance a

/-- A position is within tolerance of a target (R26). -/
def withinTolerance (p t : Int) : Bool := t - Config.tolerance ≤ p && p ≤ t + Config.tolerance

/-- The direction from `p` toward `t`. -/
def dirToward (p t : Int) : Dir := if p < t then .high else .low

/-- The ramp duty at `t` µs after the entry to STARTING (R33), on whole ms (log entry 30). -/
def rampDuty (t : Time) : Nat := if t < Config.rampEnd then 40 + 3 * (t / 1000) / 10 else 100

/-- The duty of the axis's motor, 0 when it is not driven (R33–R36). -/
def AxisRec.duty (r : AxisRec) (now : Time) : Nat :=
  if !r.driving then 0
  else match r.order with
    | none => 0
    | some o => match o.form with
      | .normal => if r.within o 40 then min (rampDuty (now - r.startedAt)) 60 else rampDuty (now - r.startedAt)
      | .fast | .timed => 100
      | .rescue50 => 50
      | .corrective => 40

/-- A TARGET drive order whose remaining distance lies within the coast allowance is driven CORRECTIVE (R36). -/
def shapeTarget (a : Axis) (r : AxisRec) (o : Order) : Order :=
  if r.within o (Config.coastAllowance a) && !r.within o 0 then { o with form := .corrective, obstruct := false } else o

/-! ### Claims and admission (R55, R56) -/

/-- The operation counts toward the concurrency limit (R55). -/
def AxisRec.counted (r : AxisRec) : Bool :=
  r.op.any fun o => o.source != .protect && (r.driving || o.claimed)

/-- The count of R55. -/
def Seat.motorCount (s : Seat) : Nat := (Axis.all.filter fun a => (s.axis a).counted).length

/-- The operation makes its start claim (R9, R56). -/
def Work.makeClaim (w : Work) (a : Axis) : Work :=
  match (w.axis a).op with
  | none => w
  | some o =>
    let w := w.setAxis a { w.axis a with op := some { o with claimed := true } }
    w.allocate (Allocating.claim (.axis a) o.cls (Config.startClaim a))

/-- The rank of the class of an axis's current operation. -/
def Seat.opRank (s : Seat) (a : Axis) : Nat :=
  match (s.axis a).op with
  | none => 0
  | some o => o.cls.rank

/-- Join the admission wait: class first, highest first, then the time each began to wait (R55). -/
def Work.awaitAdmission (w : Work) (a : Axis) : Work :=
  let others := w.motion.admission.filter (· != a)
  let ahead := others.takeWhile fun b => w.opRank a ≤ w.opRank b
  { w with motion := { w.motion with admission := ahead ++ [a] ++ others.drop ahead.length } }

def Work.leaveAdmission (w : Work) (a : Axis) : Work :=
  { w with motion := { w.motion with admission := w.motion.admission.filter (· != a) } }

/-- Waiting operations are admitted in turn while the count is below N (R55). At most seven can wait. -/
def Work.admitFrom : Nat → Work → Work
  | 0, w => w
  | n + 1, w =>
    match w.motion.admission with
    | [] => w
    | a :: _ =>
      if w.motorCount < w.power.config.concurrency then Work.admitFrom n ((w.leaveAdmission a).makeClaim a) else w

def Work.admitWaiting (w : Work) : Work := w.admitFrom 7

/-- The current operation gives its axis a drive order that needs a claim (2.4, R31, R32, R55, R56). From IDLE an order
opposite to the last direction brakes first, unless the axis holds the braked mark for it. -/
def Work.giveOrder (w : Work) (a : Axis) (o : Order) : Work :=
  let r := w.axis a
  match r.op with
  | none => w
  | some op =>
    let opposite := o.dir != r.lastDir
    let op := { op with startTimer := if op.cls == .p3 then some (w.now + Config.startTime) else none }
    let r := { r with order := some o, braked := r.braked && opposite, op := some op }
    let r :=
      if r.drive == .idle && opposite && !r.braked then
        { r with drive := .braking, phaseEnd := some (w.now + Config.brakeInterval), afterDrive := false }
      else r
    let w := w.setAxis a r
    if op.source == .protect || w.motorCount < w.power.config.concurrency then w.makeClaim a else w.awaitAdmission a

/-! ### Entering STARTING and removing drive (R28, R30) -/

/-- The axis enters STARTING for its order (R28, R64). -/
def Work.enterStarting (w : Work) (a : Axis) : Work :=
  let r := w.axis a
  match r.order, r.op with
  | some o, some op =>
    let first := op.state == .waiting
    let op' := { op with
      state := if first then .moving else op.state
      startPos := if first && op.kind == .home then r.position else op.startPos
      startTimer := none
      claimed := false
      driven := true }
    let w := w.setAxis a { r with
      drive := .starting
      lastDir := o.dir
      driveEdges := 0
      opEdges := if op.driven then r.opEdges else 0
      intervals := []
      phaseEnd := some (w.now + Config.startInterval)
      startedAt := w.now
      stallAt := none
      timedEnd := if o.form == .timed then some (w.now + Config.timedLimit) else none
      braked := false
      afterDrive := false
      resetDeadband := false
      op := some op' }
    w.restartRunOn.outputStart
  | _, _ => w

/-- The three conditions of R28 hold: an order, a start grant for it, and the axis IDLE with the order in the last
direction or with its braked mark set. -/
def Seat.readyToStart (s : Seat) (a : Axis) : Bool :=
  let r := s.axis a
  r.drive == .idle && !r.pendingFault && s.alloc.holds (.axis a) &&
    r.op.any (·.claimed) && r.order.any fun o => o.dir == r.lastDir || r.braked

def Work.tryStart (w : Work) (a : Axis) : Work := if w.readyToStart a then w.enterStarting a else w

/-- The record of an axis whose drive is removed: COASTING (R30, R31). -/
def AxisRec.coasting (r : AxisRec) (now : Time) : AxisRec :=
  { r with
    drive := .coasting
    phaseEnd := some (now + Config.coastInterval)
    stallAt := none
    timedEnd := none
    order := none
    afterDrive := false
    resetDeadband := false }

/-- The drive is removed and the grant released; the operation goes on (R30). -/
def Work.removeDrive (w : Work) (a : Axis) : Work :=
  if (w.axis a).driving then
    let w := w.setAxis a ((w.axis a).coasting w.now)
    (w.allocate (Allocating.drop (.axis a))).admitWaiting
  else w

/-- The current operation's state becomes `st`. -/
def Work.setOpState (w : Work) (a : Axis) (st : OpState) : Work :=
  w.setAxis a { w.axis a with op := (w.axis a).op.map fun o => { o with state := st } }

/-! ### Ending an operation (R52, R71) -/

/-- The AXIS_DONE event (R71). -/
def axisDoneItem (a : Axis) (source : Source) (kind : OpKind) (tag : Nat) (code : Code) (r : AxisRec)
    (corrected : Bool) : Item :=
  ⟨.event .axisDone, byte1 a.index.val ++ byte1 source.code ++ byte1 kind.code ++ byte1 tag ++ byte1 code.code ++
    word2 r.position ++ flagByte r.referenced ++ flagByte corrected⟩

/-- A member is ended with a code (R69). -/
def Sequence.endMember (q : Sequence) (a : Axis) (code : Code) : Sequence :=
  { q with members := q.members.map fun m =>
      if m.axis == a && m.state == .active then { m with state := .ended code, running := false } else m }

/-- A member's code is recorded and handed to the creating block: a RESTORE member that ends OBSTRUCTED has its snapshot
entry removed (R69, R169). -/
def Work.memberEnded (w : Work) (a : Axis) (code : Code) : Work :=
  match w.motion.sequence with
  | none => w
  | some q =>
    let w := { w with motion := { w.motion with sequence := some (q.endMember a code) } }
    let w := if q.kind == .restore && code == .obstructed then w.dropSnapshotEntry a else w
    w.post .sequence

/-- Step 1 of R52: the drive order is withdrawn. -/
def AxisRec.withoutOrder (r : AxisRec) (now : Time) : AxisRec :=
  if r.driving then r.coasting now else { r with order := none, braked := false }

/-- The code an operation ends with: OBSTRUCTED once the obstruction mark is set (R46, R63). -/
def Op.endCode (o : Op) (code : Code) : Code := if o.obstructed then .obstructed else code

/-- The current operation of `a` ends with a completion code (R52). AXIS_DONE carries the mark that the corrective move was
ordered (R71, log entry 34). -/
def Work.endOp (w : Work) (a : Axis) (code : Code) : Work :=
  match (w.axis a).op with
  | none => w
  | some o =>
    let code := o.endCode code
    let w := w.setAxis a ((w.axis a).withoutOrder w.now)
    let w := (w.leaveAdmission a).allocate (Allocating.drop (.axis a))
    let r := { w.axis a with op := none }
    let w := w.setAxis a r
    let w := if o.member then w.memberEnded a code else w.emit (axisDoneItem a o.source o.kind o.tag code r o.corrected)
    w.admitWaiting

/-- End the operations of a list of axes, in its order. -/
def Work.endOps (w : Work) (axes : List Axis) (code : Code) : Work := axes.foldl (fun w a => w.endOp a code) w

/-- The claims that wait in the queue, and the admission waits, of a list of axes are withdrawn (R58, R70). No
waiting operation is admitted yet (log entry 36). -/
def Work.withdrawWaiting (w : Work) (axes : List Axis) : Work :=
  let w := axes.foldl (fun w a => w.leaveAdmission a) w
  axes.foldl (fun w a => w.allocate (Allocating.withdraw (.axis a))) w

/-! ### Creating operations (R53, R54, R59, R61, R64, R66) -/

/-- The new operation becomes current in WAITING, ending PREEMPTED a current one of lower class (R53, R54). -/
def Work.installOp (w : Work) (a : Axis) (o : Op) : Work :=
  let w := w.endOp a .preempted
  w.setAxis a { w.axis a with op := some o, opEdges := 0 }

/-- A SWITCH JOG gives its one drive order; at or beyond the soft stop it ends DONE without a claim (R26, R59). -/
def Work.beginJog (w : Work) (a : Axis) (o : Op) : Work :=
  let r := w.axis a
  let order : Order := ⟨o.dir, o.profile.form, if r.referenced then some (Config.softStop a o.dir) else none, false⟩
  if r.within order 0 then w.endOp a .done else w.giveOrder a order

/-- A TARGET operation is taken (R61): DONE within tolerance, otherwise its main drive order. -/
def Work.beginTarget (w : Work) (a : Axis) (o : Op) : Work :=
  let r := w.axis a
  let t := o.target.getD r.position
  if withinTolerance r.position t then w.endOp a .done
  else
    let order : Order := ⟨dirToward r.position t, o.profile.form, some t, o.source.obstructable⟩
    w.giveOrder a (shapeTarget a r order)

/-- The operation just installed gives its first order, by its kind. -/
def Work.beginOp (w : Work) (a : Axis) (o : Op) : Work :=
  match o.kind with
  | .jog => w.beginJog a o
  | .target => w.beginTarget a o
  | .home => w.giveOrder a ⟨.low, .normal, none, false⟩
  | .timed => w.giveOrder a ⟨o.dir, .timed, none, false⟩

/-- An operation is created and taken. -/
def Work.createOp (w : Work) (a : Axis) (o : Op) : Work := (w.installOp a o).beginOp a o

/-! ### References (R44, R47, R48) -/

/-- The axis gains its reference at the LOW end stop (R47, R48). -/
def Work.gainReference (w : Work) (a : Axis) : Work :=
  (w.setAxis a { w.axis a with position := 0, referenced := true }).clearLive .hallImplausible a.index.val

/-- The integrity tally reached 16 (R44): the loss, its fault, and what it does to the current operation. A HOME operation
in SETTLING goes on (log entry 32); one in RETURNING or CORRECTING ends REFERENCE_LOST, driving or not (log entry 43). -/
def Work.loseReference (w : Work) (a : Axis) : Work :=
  let was := (w.axis a).referenced
  let w := w.setAxis a { w.axis a with tally := 0, referenced := false }
  let w := w.raiseLive .hallImplausible a.index.val
  match (w.axis a).op with
  | none => w
  | some o =>
    if !was then w
    else match o.kind with
      | .target => w.endOp a .referenceLost
      | .jog => w.setAxis a { w.axis a with order := (w.axis a).order.map fun d => { d with stop := none } }
      | .home => if o.state == .returning || o.state == .correcting then w.endOp a .referenceLost else w
      | .timed => w

/-! ### Reports of a drive's end (R30, R62–R66) -/

/-- The drive reached its stop point: cause ARRIVED (R59, R62, R65). -/
def Work.arrived (w : Work) (a : Axis) : Work :=
  match (w.axis a).op with
  | none => w.removeDrive a
  | some o =>
    if o.kind == .jog then w.endOp a .done
    else
      let w := w.removeDrive a
      if o.state == .moving then w.setOpState a .settling else w

/-- A stall (R40, R41, R47, R48, R59, R63, R64, R66). One with no edge keeps the reference as it was, also of a HOME drive
(R41, log entry 49). -/
def Work.stalled (w : Work) (a : Axis) : Work :=
  let r := w.axis a
  match r.op with
  | none => w.removeDrive a
  | some o =>
    if r.opEdges = 0 then
      let w := w.setAxis a { r with pendingFault := true }
      (w.raise .noMotion a.index.val).endOp a .noMotion
    else match o.kind with
      | .jog =>
        if o.source == .switch && r.lastDir == .low && 40 ≤ r.driveEdges then (w.gainReference a).endOp a .done
        else w.endOp a .stalled
      | .home =>
        if o.state == .moving then
          let w := w.setAxis a { r with op := some { o with stallPos := r.position } }
          ((w.gainReference a).removeDrive a).setOpState a .settling
        else w.endOp a .stalled
      | .timed => (w.removeDrive a).setOpState a .settling
      | .target => w.endOp a .stalled

/-- The completion code of a revocation (R20, R63). -/
def RevokeCause.opCode : RevokeCause → Code
  | .budget => .stoppedBudget | .supply => .supply | .protect => .preempted

/-- The allocator revoked the grant of `a`: the operation that held it ends by the cause (R20, R63). An operation that has
since made a claim that stands is another one and is not touched. -/
def Work.axisRevoked (w : Work) (a : Axis) (cause : RevokeCause) : Work :=
  let r := w.axis a
  if r.op.any (fun o => o.claimed || r.driving) && !w.alloc.holds (.axis a) && !w.alloc.queued (.axis a) then
    w.endOp a cause.opCode
  else w

/-! ### Hall edges (R37–R39, R43–R45, R48) -/

/-- The position after one edge in the last drive direction, kept within its bounds (R37, R38). -/
def AxisRec.countedPosition (a : Axis) (r : AxisRec) : Int :=
  let p := match r.lastDir with
    | .high => r.position + 1
    | .low => r.position - 1
  if r.referenced then max 0 (min (Config.travel a : Int) p) else max (-32768) (min 32767 p)

/-- The interval of an edge, none for the first (R43). -/
def AxisRec.interval (r : AxisRec) (now : Time) : Option Nat := r.lastEdge.map (now - ·)

/-- Tally and plausible-edge count after an edge (R43). -/
def judgeInterval (tally plausible : Nat) : Option Nat → Nat × Nat
  | none => (tally, plausible)
  | some i =>
    if i < Config.plausibleInterval then (tally + 1, plausible)
    else if plausible + 1 = 64 then (tally - 1, 0)
    else (tally, plausible + 1)

/-- The interval list after an edge: each edge of a drive but the first joins, the oldest of eight leaves (R45). -/
def AxisRec.nextIntervals (r : AxisRec) (now : Time) : List Nat :=
  match r.interval now with
  | none => r.intervals
  | some i =>
    if r.driving && 0 < r.driveEdges then
      let l := r.intervals ++ [i]
      l.drop (l.length - 8)
    else r.intervals

/-- The edge adds to the edges of the present drive and operation (R37). -/
def AxisRec.edgeOfDrive (r : AxisRec) : Bool :=
  r.driving || r.drive == .coasting || (r.drive == .braking && r.afterDrive)

/-- The record after one hall edge at `now` (R37, R38, R40, R43, R45). -/
def AxisRec.afterEdge (a : Axis) (r : AxisRec) (now : Time) : AxisRec :=
  { r with
    position := r.countedPosition a
    driveEdges := if r.edgeOfDrive then r.driveEdges + 1 else r.driveEdges
    opEdges := if r.edgeOfDrive && r.op.isSome then r.opEdges + 1 else r.opEdges
    intervals := r.nextIntervals now
    tally := (judgeInterval r.tally r.plausible (r.interval now)).1
    plausible := (judgeInterval r.tally r.plausible (r.interval now)).2
    lastEdge := some now
    stallAt := if r.drive == .running then some (now + Config.stallLimit) else r.stallAt }

/-- A HOME drive toward LOW has exceeded travel × 5 / 4 edges (R48). -/
def AxisRec.homeTooLong (a : Axis) (r : AxisRec) : Bool :=
  r.driving && r.op.any (fun o => o.kind == .home && o.state == .moving) && Config.travel a * 5 / 4 < r.driveEdges

/-- The remaining distance has reached the stop distance (R30, R33–R36). -/
def AxisRec.atStop (a : Axis) (r : AxisRec) : Bool :=
  r.driving && r.order.any fun o => r.within o (stopDistance a o.form)

/-- One hall edge is taken by a present axis (R37). Where the same edge loses the reference and reaches the stop distance,
the model takes the loss first (R30, R44, log entry 42). -/
def Work.takeEdge (w : Work) (a : Axis) : Work :=
  let w := w.setAxis a ((w.axis a).afterEdge a w.now)
  let w := if 16 ≤ (w.axis a).tally then w.loseReference a else w
  if (w.axis a).homeTooLong a then
    let w := w.setAxis a { w.axis a with referenced := false }
    (w.raise .homeFailed a.index.val).endOp a .homeFailed
  else if (w.axis a).atStop a then w.arrived a
  else w

/-! ### Coast end and brake end (R31, R32, R46, R62, R65, R66) -/

/-- The settled position is judged against the target (R62): DONE, the corrective move, or TARGET_MISSED. -/
def Work.judgeTarget (w : Work) (a : Axis) : Work :=
  let r := w.axis a
  match r.op with
  | none => w
  | some o =>
    let t := o.target.getD r.position
    if withinTolerance r.position t then w.endOp a .done
    else if o.corrected then w.endOp a .targetMissed
    else
      let w := w.setAxis a { r with op := some { o with corrected := true, state := .correcting } }
      w.giveOrder a ⟨dirToward r.position t, .corrective, some t, false⟩

/-- The back-off after an obstruction (R46). -/
def Work.backOff (w : Work) (a : Axis) : Work :=
  let w := w.setOpState a .returning
  let r := w.axis a
  let dir := r.lastDir.opposite
  let stop := match dir with
    | .high => min (r.position + 30) (Config.softHigh a)
    | .low => max (r.position - 30) Config.softLow
  let order : Order := ⟨dir, .normal, some stop, false⟩
  if r.within order (Config.coastAllowance a) then w.endOp a .obstructed else w.giveOrder a order

/-- The HOME operation computes its return target and orders the return drive (R65), also where its reference was lost in
the coast (log entry 32). -/
def Work.homeReturn (w : Work) (a : Axis) (o : Op) : Work :=
  let t := Config.clampTarget a (o.startPos - o.stallPos)
  let w := w.setAxis a { w.axis a with op := some { o with target := some t, state := .returning } }
  let r := w.axis a
  let order : Order := ⟨.high, .normal, some t, false⟩
  if r.within order 0 then w.judgeTarget a else w.giveOrder a (shapeTarget a r order)

/-- What the current operation makes of its axis's settled position (R31, R46, R62, R65, R66). -/
def Work.settle (w : Work) (a : Axis) : Work :=
  let r := w.axis a
  match r.op with
  | none => w
  | some o =>
    if r.order.isSome then w
    else match o.state with
      | .waiting | .moving => w
      | .settling =>
        if o.obstructed then w.backOff a
        else match o.kind with
          | .target => w.judgeTarget a
          | .home => w.homeReturn a o
          | .timed | .jog => w.endOp a .done
      | .correcting => w.judgeTarget a
      | .returning => if o.obstructed then w.endOp a .obstructed else w.judgeTarget a

/-- The axis leaves COASTING (R31). After a supply reset it brakes whatever order it has (R27). -/
def Work.leaveCoast (w : Work) (a : Axis) : Work :=
  let r := w.axis a
  let brake := fun (after : Bool) =>
    w.setAxis a { r with drive := .braking, phaseEnd := some (w.now + Config.brakeInterval), afterDrive := after,
                         resetDeadband := false }
  if r.pendingFault then w.setAxis a { r with drive := .fault, phaseEnd := none, pendingFault := false }
  else if r.resetDeadband then brake false
  else match r.order with
    | none => w.setAxis a { r with drive := .idle, phaseEnd := none }
    | some o =>
      if o.dir == r.lastDir then (w.setAxis a { r with drive := .idle, phaseEnd := none }).tryStart a
      else brake true

/-- The coast of `a` has ended (R31). -/
def Work.coastEnded (w : Work) (a : Axis) : Work := (w.settle a).leaveCoast a

/-- The brake of `a` has ended (R32). It counts for the order present at its end, also one given after the order it began
for was withdrawn (log entry 35). -/
def Work.brakeEnded (w : Work) (a : Axis) : Work :=
  let r := w.axis a
  let w := w.setAxis a { r with
    drive := .idle
    phaseEnd := none
    afterDrive := false
    braked := r.order.any (·.dir != r.lastDir) }
  w.tryStart a

/-! ### Obstruction (R45) -/

/-- When obstruction is found if no further edge comes: none while the check does not apply. The comparison is
16 × elapsed > 5 × S. -/
def AxisRec.obstructionAt (r : AxisRec) : Option Time :=
  match r.order, r.op, r.lastEdge with
  | some o, some op, some e =>
    if r.driving && o.obstruct && o.form == .normal && op.source.obstructable && r.intervals.length == 8 then
      some (max (r.startedAt + Config.rampEnd) (e + 5 * r.intervals.sum / 16 + 1))
    else none
  | _, _, _ => none

/-- Obstruction is found (R45, R63). -/
def Work.obstructionFound (w : Work) (a : Axis) : Work :=
  let w := w.setAxis a { w.axis a with op := (w.axis a).op.map fun o => { o with obstructed := true } }
  (w.removeDrive a).setOpState a .settling

/-! ### Quiet (R76) -/

/-- No current operation, no sequence, and every axis IDLE or FAULT (R76). -/
def Seat.motionQuiet (s : Seat) : Bool :=
  s.motion.sequence.isNone && Axis.all.all fun a => (s.axis a).op.isNone && (s.axis a).resting

end Sys2Proof.Machine
end

