-- ==== Sys2Proof/Machine/Sequences.lean ====
section
/-!
DEFINITION. Sequences (3.8), switch operations (3.4), and what ends motion from outside: STOP_ALL, POSTCRASH, RESTART and
a change of the channel map.
-/
namespace Sys2Proof.Machine

open Sys2Proof

/-! ### The sequence record (R67) -/

/-- The source of the operations of a sequence (R50, R67). -/
def SeqKind.source : SeqKind → Source
  | .recall => .recall | .easy => .easy | .restore => .restore | .home => .home | .protect => .protect

/-- The profile of the operations of a sequence (R50). -/
def SeqKind.profile : SeqKind → OpProfile
  | .protect => .fast
  | .recall | .easy | .restore | .home => .normal

def MemberState.isEnded : MemberState → Bool
  | .ended _ => true
  | .pending | .active => false

/-- A member as its creator names it: PENDING, not offered. -/
def Member.make (axis : Axis) (kind : OpKind) (target : Int) (dir : Dir) : Member :=
  ⟨axis, kind, target, dir, .pending, false, false⟩

/-- A TARGET member. -/
def Member.toTarget (a : Axis) (t : Int) : Member := Member.make a .target t .high

/-- The operation that serves a member; its target is clamped into the soft stops (R50, R61). -/
def Sequence.opFor (q : Sequence) (m : Member) : Op :=
  Op.make q.kind.source m.kind m.dir
    (if m.kind == .target then some (Config.clampTarget m.axis m.target) else none) q.kind.profile q.tag true

/-- The axes of the ACTIVE members. -/
def Sequence.activeAxes (q : Sequence) : List Axis := (q.members.filter (·.state == .active)).map (·.axis)

/-- The next member may be offered (R68). -/
def Sequence.paced (q : Sequence) : Bool :=
  match (q.members.filter (·.offered)).getLast? with
  | none => true
  | some l =>
    match q.kind with
    | .protect => true
    | .home => l.state.isEnded
    | .recall | .easy | .restore => l.state.isEnded || l.running

/-- The axis of the member to offer now, none while the pace forbids it or no member is PENDING (R68). -/
def Sequence.next (q : Sequence) : Option Axis :=
  if q.paced then (q.members.find? (·.state == .pending)).map (·.axis) else none

def Sequence.update (q : Sequence) (a : Axis) (f : Member → Member) : Sequence :=
  { q with members := q.members.map fun m => if m.axis == a then f m else m }

def Work.updateMember (w : Work) (a : Axis) (f : Member → Member) : Work :=
  { w with motion := { w.motion with sequence := w.motion.sequence.map (·.update a f) } }

/-! ### Results (R69, R72) -/

def Member.isOk (m : Member) : Bool := m.offered && m.state == .ended .done

def Member.isSkipped (m : Member) : Bool := !m.offered || m.state == .ended .refusedUnreferenced

def Member.isFailed (m : Member) : Bool := !m.isOk && !m.isSkipped

/-- The code of a member that has ended. -/
def Member.code? (m : Member) : Option Nat :=
  match m.state with
  | .ended c => some c.code
  | .pending | .active => none

/-- The SEQUENCE_DONE event (R72). -/
def sequenceDoneItem (q : Sequence) (result : Code) : Item :=
  ⟨.event .sequenceDone, byte1 q.kind.code ++ byte1 q.tag ++ byte1 result.code ++
    axesByte ((q.members.filter Member.isOk).map (·.axis)) ++
    axesByte ((q.members.filter Member.isFailed).map (·.axis)) ++
    axesByte ((q.members.filter Member.isSkipped).map (·.axis)) ++
    optByte ((q.members.find? Member.isFailed).bind Member.code?)⟩

/-- The result of a sequence whose members have all ended (R69). -/
def Sequence.result (q : Sequence) : Code := if q.members.all (·.state == .ended .done) then .done else .partly

/-- The sequence ends: SEQUENCE_DONE, the record discarded, the result handed to the creating block (R69). -/
def Work.finishSequence (w : Work) (q : Sequence) (result : Code) : Work :=
  Work.post (Work.emit { w with motion := { w.motion with sequence := none } } (sequenceDoneItem q result))
    (.sequenceDone q.kind result)

/-! ### Offering (R68) -/

/-- The tests 1 to 3 of R68. -/
def Seat.offerRefusal (s : Seat) (q : Sequence) (m : Member) : Option Code :=
  let r := s.axis m.axis
  if r.faulty then some .refusedFault
  else if r.op.any (fun o => q.kind.source.cls.rank ≤ o.cls.rank) then some .refusedBusy
  else if m.kind == .target && q.kind != .protect && !r.referenced then some .refusedUnreferenced
  else none

/-- One member is offered: it ends at its offer, or its operation takes the axis (R68). -/
def Work.offer (w : Work) (a : Axis) : Work :=
  match w.motion.sequence with
  | none => w
  | some q =>
    match q.members.find? (·.axis == a) with
    | none => w
    | some m =>
      let w := w.updateMember a fun m => { m with state := .active, offered := true }
      match w.offerRefusal q m with
      | some code => w.memberEnded a code
      | none => w.createOp a (q.opFor m)

/-- Offer members while the pace permits; a sequence has at most seven. -/
def Work.offerFrom : Nat → Work → Work
  | 0, w => w
  | n + 1, w =>
    match w.motion.sequence.bind Sequence.next with
    | none => w
    | some a => Work.offerFrom n (w.offer a)

/-- Offer what may be offered, and end the sequence when every member has ended (R68, R69). -/
def Work.advanceSequence (w : Work) : Work :=
  let w := w.offerFrom 8
  match w.motion.sequence with
  | none => w
  | some q => if q.members.all (·.state.isEnded) then w.finishSequence q q.result else w

/-! ### Early end and creation (R67, R70) -/

/-- PENDING members become ENDED with the code (R70). -/
def Sequence.endPending (q : Sequence) (code : Code) : Sequence :=
  { q with members := q.members.map fun m => if m.state == .pending then { m with state := .ended code } else m }

/-- The held sequence is ended early with the cause's code (R70). -/
def Work.endSequence (w : Work) (code : Code) : Work :=
  match w.motion.sequence with
  | none => w
  | some q =>
    let w := (w.withdrawWaiting q.activeAxes).endOps q.activeAxes code
    match w.motion.sequence with
    | none => w
    | some q => w.finishSequence (q.endPending code) code

/-- A sequence of kind `k` is held. -/
def Seat.holdsSequence (s : Seat) (k : SeqKind → Bool) : Bool := s.motion.sequence.any fun q => k q.kind

/-- A creating block asks for the end of the sequence of its kind (R70). -/
def Work.endSequenceOf (w : Work) (k : SeqKind → Bool) (code : Code) : Work :=
  if w.holdsSequence k then w.endSequence code else w

/-- The axes with an operation outside a sequence, in axis index order, which R75 and R76 give and which is log entry 55's
choice for R58, R67 and R171. -/
def Seat.outsideAxes (s : Seat) (f : Op → Bool) : List Axis :=
  Axis.all.filter fun a => (s.axis a).op.any fun o => !o.member && f o

/-- The table of R67: the refusal of a request to create a sequence. -/
def Seat.sequenceRefusal (s : Seat) : SeqKind → Option Code
  | .protect => none
  | .home =>
    if s.protecting || s.pcu.state == .postcrash then some .refusedState
    else if s.motion.sequence.isSome then some .refusedBusy
    else none
  | .recall | .easy | .restore =>
    if s.protecting || s.pcu.state == .postcrash then some .refusedState
    else if s.holdsSequence (· == .protect) then some .refusedBusy
    else none

/-- What the creation of a sequence ends first (R67). That the operations outside a sequence end in axis index order is
log entry 55 (DESIGN CHOICE). -/
def Work.makeRoom (w : Work) : SeqKind → Work
  | .protect => Work.endOps (w.endSequence .preempted) ((w.endSequence .preempted).outsideAxes fun _ => true) .preempted
  | .home => w
  | .recall | .easy | .restore => w.endSequence .superseded

/-- A request to create a sequence (R67): the part after it, and the refusal if it is refused. Members are named by the
creator; absent axes are not taken. -/
def Work.createSequence (w : Work) (kind : SeqKind) (tag : Nat) (members : List Member) : Work × Option Code :=
  match w.sequenceRefusal kind with
  | some code => (w, some code)
  | none =>
    let w := w.makeRoom kind
    let inOrder := Axis.all.flatMap fun a => if w.present a then members.filter (·.axis == a) else []
    (Work.advanceSequence { w with motion := { w.motion with sequence := some ⟨kind, tag, inOrder⟩ } }, none)

/-! ### Switch operations (R57–R59) -/

/-- A served press ends automatic motion whole: waiting claims first, then drives and grants (R58). That the SERVICE
operations end in axis index order is log entry 55 (DESIGN CHOICE). -/
def Work.switchAbort (w : Work) : Work :=
  let service := w.outsideAxes fun o => o.source == .service
  let active := match w.motion.sequence with
    | some q => if q.kind == .protect then [] else q.activeAxes
    | none => []
  ((w.withdrawWaiting (active ++ service)).endSequenceOf (· != .protect) .abortedSwitch).endOps service .abortedSwitch

/-- The refusal of a switch operation (R53, R57). -/
def Seat.jogRefusal (s : Seat) (a : Axis) : Option Code :=
  let r := s.axis a
  if !s.present a then some .refusedAbsent
  else if r.faulty then some .refusedFault
  else if r.op.any (fun o => Source.switch.cls.rank ≤ o.cls.rank) then some .refusedBusy
  else none

/-- The SWITCH JOG of a press (R50, R57). -/
def Seat.jogOp (s : Seat) (dir : Dir) : Op :=
  Op.make .switch .jog dir none (if s.pcu.state == .postcrash then .rescue50 else .normal) 0 false

/-- The motion controller's part of an axis press outside PROTECTING (R57). -/
def Work.servePress (w : Work) (a : Axis) (dir : Dir) : Work :=
  let w := w.switchAbort
  match w.jogRefusal a with
  | some code => w.emit (axisDoneItem a .switch .jog 0 code (w.axis a) false)
  | none => w.createOp a (w.jogOp dir)

/-- A delivered release ends the SWITCH JOG of its direction DONE (R59). -/
def Work.axisRelease (w : Work) (a : Axis) (dir : Dir) : Work :=
  if (w.axis a).op.any (fun o => o.source == .switch && o.kind == .jog && o.dir == dir) then w.endOp a .done else w

/-! ### Service requests (R73–R75) -/

/-- PROTECTING or POSTCRASH: service motion is refused REFUSED_STATE (R73, R74). -/
def Seat.motionForbidden (s : Seat) : Bool := s.protecting || s.pcu.state == .postcrash

/-- The tests of R73. -/
def Seat.moveAxisTest (s : Seat) (a : Axis) : Result × Option Code :=
  let r := s.axis a
  if !s.present a then (.absent, none)
  else if s.motionForbidden then (.state, some .refusedState)
  else if r.faulty then (.state, some .refusedFault)
  else if !r.referenced then (.state, some .refusedUnreferenced)
  else if r.op.isSome then (.busy, some .refusedBusy)
  else (.ok, none)

/-- The tests of R74; none names ALL. -/
def Seat.homeAxisTest (s : Seat) (sel : Option Axis) : Result × Option Code :=
  if sel.any (fun a => !s.present a) then (.absent, none)
  else if s.motionForbidden then (.state, some .refusedState)
  else if s.motion.sequence.isSome then (.busy, some .refusedBusy)
  else if sel.any (fun a => (s.axis a).faulty) then (.state, some .refusedFault)
  else if sel.any (fun a => (s.axis a).op.isSome) then (.busy, some .refusedBusy)
  else (.ok, none)

/-- MOVE_AXIS of a known axis (R73): the answer, then the operation. -/
def Work.moveAxis (w : Work) (a : Axis) (target : Nat) (tag : Nat) : Work :=
  let t := w.moveAxisTest a
  let w := w.answer 0x03 t.1 (t.2.map Code.code) []
  if t.1 == .ok then
    w.createOp a (Op.make .service .target .high (some (Config.clampTarget a target)) .normal tag false)
  else w

/-- HOME_AXIS of a known selector (R74): the answer, then the sequence. -/
def Work.homeAxis (w : Work) (sel : Option Axis) (tag : Nat) : Work :=
  let t := w.homeAxisTest sel
  let w := w.answer 0x04 t.1 (t.2.map Code.code) []
  if t.1 == .ok then
    (w.createSequence .home tag ((sel.map ([·])).getD Axis.all |>.map fun a => Member.make a .home 0 .low)).1
  else w

/-- STOP_ALL after its answer (R75). -/
def Work.stopAll (w : Work) : Work :=
  (w.endOps (w.outsideAxes fun o => o.source != .protect) .stopped).endSequenceOf (· != .protect) .stopped

/-! ### Configuration, POSTCRASH and RESTART (R25, R27, R76, R171) -/

/-- Every axis is IDLE or FAULT (R25). -/
def Seat.axesResting (s : Seat) : Bool := Axis.all.all fun a => (s.axis a).resting

/-- The record of an axis whose channel changed (R25); its first edge on the new channel is not judged (R43). The
plausible-edge count and the edges of drive and operation are kept (log entry 31). -/
def AxisRec.remapped (r : AxisRec) : AxisRec :=
  { r with position := 0, referenced := false, drive := if r.drive == .fault then .fault else .idle, lastDir := .low,
           tally := 0, intervals := [], lastEdge := none }

/-- The axes whose channel differs in the new variant. -/
def movedAxes (old new : Fin 4) : List Axis := Axis.all.filter fun a => Config.channelMap old a != Config.channelMap new a

/-- PENDING members whose axis becomes absent end REFUSED_ABSENT (R25). -/
def Sequence.dropAbsent (new : Fin 4) (q : Sequence) : Sequence :=
  { q with members := q.members.map fun m =>
      if m.state == .pending && (Config.channelMap new m.axis).isNone then { m with state := .ended .refusedAbsent } else m }

/-- The channel map changes (R25). Snapshot entries stay (log entry 33). -/
def Work.changeMap (w : Work) (new : Fin 4) : Work :=
  let moved := movedAxes w.variant new
  let w := w.endOps (moved.filter w.present) .stopped
  let w := { w with motion := { w.motion with sequence := w.motion.sequence.map (Sequence.dropAbsent new) } }
  let w := moved.foldl (fun w a => w.setAxis a (w.axis a).remapped) w
  Work.post { w with power := { w.power with config := { w.power.config with variant := new } } } .sequence

/-- The edges and lists of R27 at RESTART. -/
def AxisRec.restarted (r : AxisRec) : AxisRec :=
  { r with intervals := [], driveEdges := 0, opEdges := 0, braked := false }

/-- RESTART in the motion controller: operations outside a sequence in axis index order, then the sequence (R27, R76). The
allocator has given up every grant before (R22). -/
def Work.restartMotion (w : Work) : Work :=
  let w := { w with alloc := w.alloc.clear, motion := { w.motion with admission := [] } }
  let w := w.endOps (w.outsideAxes fun _ => true) .restarted
  let w := w.endSequence .restarted
  Axis.all.foldl (fun w a => w.setAxis a (w.axis a).restarted) w

end Sys2Proof.Machine
end

