-- ==== Sys2Proof/Machine/Pneumatic.lean ====
section
/-!
DEFINITION. The pneumatic controller (chapter 5): cells and vents, the manifold and its queue, support levels and
adjustments, and the bolster hold.
-/
namespace Sys2Proof.Machine

open Sys2Proof

/-! ### Entries and operations (R105, R106) -/

/-- The order of the classes of the manifold, PROTECT first (R105). -/
def AirClass.rank : AirClass → Nat
  | .protect => 0 | .support => 1 | .massage => 2

/-- The class of the pump's claim for a FILL (R104). -/
def AirClass.claimClass : AirClass → Cls
  | .protect => .p5 | .support => .p2 | .massage => .p1

/-- The class of an entry; every MEASURE is SUPPORT (R105). -/
def AirEntry.cls : AirEntry → AirClass
  | .fill f => f.cls
  | .measure _ => .support

/-- The cells of an entry. -/
def AirEntry.cells : AirEntry → List CellIx
  | .fill f => f.cells
  | .measure c => [c]

/-- The active operation of the manifold (R105). -/
def Manifold.active : Manifold → Option AirEntry
  | .idle => none
  | .fillWait f | .pumping f => some (.fill f)
  | .measuring c _ => some (.measure c)

/-- A new FILL (R105). -/
def Fill.make (cls : AirClass) (cells : List CellIx) (target limit : Nat) : Fill :=
  ⟨cls, cells, target, limit, false, 0, none, 0, 0, 0, false⟩

/-- The PROTECT FILL (R105). -/
def Fill.protect : Fill := Fill.make .protect Config.bolsterCells 40 1500

/-- The FILL of a support adjustment (R105, R116). -/
def Fill.support (c : CellIx) (target : Nat) : Fill := Fill.make .support [c] (target + 1) 1500

/-- The FILL of a massage step (R105). -/
def Fill.massage (cells : List CellIx) (peak : Nat) : Fill := Fill.make .massage cells peak 800

/-- While PROTECTING only PROTECT FILLs and MEASUREs are served (R106). -/
def AirEntry.servable (protecting : Bool) : AirEntry → Bool
  | .measure _ => true
  | .fill f => !protecting || f.cls == .protect

/-- The place of a new arrival: after its class (R106). -/
def joinAir (e : AirEntry) (q : List AirEntry) : List AirEntry :=
  q.takeWhile (fun x => x.cls.rank ≤ e.cls.rank) ++ [e] ++ q.dropWhile (fun x => x.cls.rank ≤ e.cls.rank)

/-- The place of a suspended FILL: first within its class (R106, R110). -/
def rejoinAir (e : AirEntry) (q : List AirEntry) : List AirEntry :=
  q.takeWhile (fun x => x.cls.rank < e.cls.rank) ++ [e] ++ q.dropWhile (fun x => x.cls.rank < e.cls.rank)

def Work.setManifold (w : Work) (m : Manifold) : Work := { w with pneu := { w.pneu with manifold := m } }

def Work.setAirQueue (w : Work) (q : List AirEntry) : Work := { w with pneu := { w.pneu with queue := q } }

/-- An entry joins the queue and the manifold looks (R106). -/
def Work.queueAir (w : Work) (e : AirEntry) : Work := (w.setAirQueue (joinAir e w.pneu.queue)).post .manifold

/-! ### Cells and vents (R103, R113) -/

/-- VENTED for 0, otherwise HOLDING (R107, R109). -/
def restState (p : Option Nat) : CellState := if p == some 0 then .vented else .holding

/-- The fill valve closes on a reading, which becomes the last pressure (R107, R109, R110). -/
def Cell.closedAt (c : Cell) (p : Nat) (now : Time) : Cell :=
  { c with state := restState (some p), last := some p, lastAt := now }

/-- A MEASURE ends without a reading; the last pressure stays (R109, log entry 8). -/
def Cell.unread (c : Cell) : Cell := { c with state := restState c.last }

/-- A vent is stopped before its end (R113). -/
def Cell.ventStopped (c : Cell) : Cell :=
  if c.state == .venting then { c with state := .holding, last := none, ventEnd := none, ventFull := false } else c

/-- A vent reaches its end (R113). -/
def Cell.ventEnded (c : Cell) (now : Time) : Cell :=
  if c.ventFull then { c with state := .vented, last := some 0, lastAt := now, ventEnd := none, ventFull := false }
  else { c with state := .holding, last := none, ventEnd := none }

/-- The manifold reading: what the sensor last told, or, until it tells one in the present pumping, the reading with which
the pumping began (R104, log entry 6). -/
def Pneu.reading (p : Pneu) : Nat :=
  match p.manifold with
  | .pumping f => f.opening.getD p.sensor
  | .idle | .fillWait _ | .measuring _ _ => p.sensor

/-- The reading when the fill valves of `cells` open: their last pressure where they all have the same one, otherwise what
the sensor last told (R104, log entry 6). -/
def Pneu.openReading (p : Pneu) (cells : List CellIx) : Nat :=
  match cells with
  | [] => p.sensor
  | c :: rest =>
    match (p.cells.get c).last with
    | none => p.sensor
    | some x => if rest.all fun d => (p.cells.get d).last == some x then x else p.sensor

/-- The cells of a FILL stop pumping at a reading. -/
def Work.closeCells (w : Work) (cells : List CellIx) (reading : Nat) : Work :=
  cells.foldl (fun w c => w.setCell c ((w.cell c).closedAt reading w.now)) w

/-- The end of a support vent is handed to the adjustment of its cell (R113). -/
def Work.tellVentOver (w : Work) (c : CellIx) : Work :=
  if (w.cell c).adj.any (·.phase == .vent) then w.post (.supportVent c) else w

/-- A FILL or MEASURE of the cell stops its vent (R107, R109, R113, log entry 15). -/
def Work.stopVent (w : Work) (c : CellIx) : Work :=
  if (w.cell c).state == .venting then (w.setCell c (w.cell c).ventStopped).tellVentOver c else w

/-! ### The end of an operation (R107, R112) -/

/-- The end of a FILL is handed to its requester (R112). -/
def Work.tellFillEnd (w : Work) (f : Fill) (e : AirEnd) : Work :=
  match f.cls with
  | .protect => w
  | .support => f.cells.foldl (fun w c => w.post (.supportEnd c e)) w
  | .massage => w.post (.massageEnd e)

/-- The active operation leaves the manifold: the pump stops, the valves close, and cells become as their end says. The
claim is not touched (R107, R109). -/
def Work.leaveManifold (w : Work) : Work :=
  let p := w.pneu
  let w := w.setManifold .idle
  match p.manifold with
  | .idle | .fillWait _ => w
  | .pumping f => w.closeCells f.cells p.reading
  | .measuring c _ => w.setCell c (w.cell c).unread

/-- The active operation is handed to its requester with its end (R112). -/
def Work.tellActiveEnd (w : Work) (m : Manifold) (e : AirEnd) : Work :=
  match m with
  | .idle => w
  | .fillWait f | .pumping f => w.tellFillEnd f e
  | .measuring c _ => w.post (.supportEnd c e)

/-- The active operation ends: claim released, end handed on, and the manifold looks (R104, R107, R112). -/
def Work.endActive (w : Work) (e : AirEnd) : Work :=
  let m := w.pneu.manifold
  ((w.leaveManifold.allocate (Allocating.drop .pump)).tellActiveEnd m e).post .manifold

/-- A vent order (R113). That the last cell of a pumping FILL takes the reading as its last pressure, while a cell that
leaves a larger set keeps the one it had, is log entry 56 (DESIGN CHOICE). -/
def Work.orderVent (w : Work) (c : CellIx) (duration : Time) (full : Bool) : Work :=
  let w := match w.pneu.manifold with
    | .measuring d _ => if d == c then w.endActive .withdrawn else w
    | .pumping f =>
      if f.cells == [c] then w.endActive .withdrawn
      else if f.cells.contains c then w.setManifold (.pumping { f with cells := f.cells.filter (· != c) })
      else w
    | .idle | .fillWait _ => w
  w.setCell c { w.cell c with state := .venting, ventEnd := some (w.now + duration), ventFull := full }

/-! ### Pumping (R107, R110) -/

/-- The FILL enters PUMPING (R107); the pump's start is an output start (R198). -/
def Work.startPumping (w : Work) (f : Fill) : Work :=
  let w := w.outputStart
  let w := f.cells.foldl (fun w c => w.stopVent c) w
  let w := f.cells.foldl (fun w c => w.setCell c { w.cell c with state := .filling }) w
  let reading := w.pneu.openReading f.cells
  let f' := { f with baseline := if f.confirmed then f.baseline else reading, opening := some reading, since := w.now
                     suspended := false }
  let w := w.setManifold (.pumping f')
  if f.suspended && f.cls == .massage then w.post .massageResumed else w

/-- The pump holds a grant (R107). -/
def Work.tryPump (w : Work) : Work :=
  match w.pneu.manifold with
  | .fillWait f => if w.alloc.holds .pump then w.startPumping f else w
  | .idle | .pumping _ | .measuring _ _ => w

/-- The running time up to now is added to its kind (R107). -/
def Fill.settleTime (f : Fill) (now : Time) : Fill :=
  if f.confirmed then { f with confirmedTime := f.confirmedTime + (now - f.since), since := now }
  else { f with unconfirmedTime := f.unconfirmedTime + (now - f.since), since := now }

/-- The pump grant of a PUMPING FILL is revoked: suspension (R110). -/
def Work.suspendFill (w : Work) : Work :=
  match w.pneu.manifold with
  | .pumping f =>
    let w := w.leaveManifold
    let w := w.setAirQueue (rejoinAir (.fill { f.settleTime w.now with opening := none, suspended := true }) w.pneu.queue)
    let w := if f.cls == .massage then w.post .massageSuspended else w
    w.post .manifold
  | .idle | .fillWait _ | .measuring _ _ => w

/-- How a reading ends a PUMPING FILL, none while it goes on (R107); the target is tested first (log entry 39). -/
def Fill.readingEnd (f : Fill) (reading : Nat) : Option AirEnd :=
  if f.target ≤ reading then some .target else if Config.relief ≤ reading then some .relief else none

/-- The manifold reading changes (R104, R107). -/
def Work.readingChanged (w : Work) (reading : Nat) : Work :=
  let w := { w with pneu := { w.pneu with sensor := reading } }
  match w.pneu.manifold with
  | .pumping f =>
    let f := { f with opening := none }
    let f := if !f.confirmed && f.baseline + 2 ≤ reading then { f.settleTime w.now with confirmed := true } else f
    let w := w.setManifold (.pumping f)
    match f.readingEnd reading with
    | some e => w.endActive e
    | none => w
  | .idle | .fillWait _ | .measuring _ _ => w

/-- When the confirmed time of the PUMPING FILL reaches its limit (R107). -/
def Manifold.limitAt : Manifold → Option Time
  | .pumping f => if f.confirmed then some (f.since + (msec f.limit - f.confirmedTime)) else none
  | .idle | .fillWait _ | .measuring _ _ => none

/-- When the unconfirmed time of the PUMPING FILL reaches 3000 ms (R107). -/
def Manifold.unconfirmedAt : Manifold → Option Time
  | .pumping f => if f.confirmed then none else some (f.since + (Config.unconfirmedLimit - f.unconfirmedTime))
  | .idle | .fillWait _ | .measuring _ _ => none

/-- The FILL fails for want of pressure (R108). -/
def Work.fillFailed (w : Work) : Work := (w.endActive .failed).raise .pumpNoPressure 0

/-! ### The manifold takes an entry (R104, R106, R108, R109) -/

/-- A FILL becomes active; the pump claim is made or taken over (R104, R107). A MASSAGE FILL fails at once while
PUMP_NO_PRESSURE is latched (R108). -/
def Work.takeFill (w : Work) (f : Fill) : Work :=
  if f.cls == .massage && w.faults.isLatched ⟨.pumpNoPressure, 0⟩ then (w.tellFillEnd f .failed).post .manifold
  else
    let w := w.setManifold (.fillWait f)
    let w :=
      if w.alloc.holds .pump || w.alloc.queued .pump then w.allocate (Allocating.reclass f.cls.claimClass)
      else w.allocate (Allocating.claim .pump f.cls.claimClass Config.pumpDraw)
    w.tryPump

/-- A MEASURE becomes active (R104, R109). -/
def Work.takeMeasure (w : Work) (c : CellIx) : Work :=
  let w := (w.allocate (Allocating.drop .pump)).stopVent c
  (w.setCell c { w.cell c with state := .measuring }).setManifold (.measuring c (w.now + Config.settleTime))

/-- An IDLE manifold takes the first entry it may serve; where there is none it stays IDLE and the pump gives up its claim
(R104, R106). -/
def Work.lookManifold (w : Work) : Work :=
  match w.pneu.manifold with
  | .idle =>
    match w.pneu.queue.find? (AirEntry.servable w.protecting) with
    | none => w.allocate (Allocating.drop .pump)
    | some e =>
      let w := w.setAirQueue (w.pneu.queue.erase e)
      match e with
      | .fill f => w.takeFill f
      | .measure c => w.takeMeasure c
  | .fillWait _ | .pumping _ | .measuring _ _ => w

/-- The settle timer of the active MEASURE expires with a reading (R109). -/
def Work.measureSettled (w : Work) (c : CellIx) (reading : Nat) : Work :=
  let w := Work.setCell { w with pneu := { w.pneu with manifold := .idle, sensor := reading } } c
    ((w.cell c).closedAt reading w.now)
  (w.post (.supportReading c reading)).post .manifold

/-! ### PROTECT and MASSAGE requests (R106, R111, R112) -/

/-- The PROTECT FILL is requested (R106, R111). -/
def Work.requestProtectFill (w : Work) : Work :=
  if w.pneu.queue.any (·.cls == .protect) || w.pneu.manifold.active.any (·.cls == .protect) then w
  else
    let m := w.pneu.manifold
    let w := w.leaveManifold.tellActiveEnd m .aborted
    w.takeFill Fill.protect

/-- The massage sequencer asks for a fill; a queued one is replaced in its place (R106). -/
def Work.requestMassageFill (w : Work) (cells : List CellIx) (peak : Nat) : Work :=
  let e := AirEntry.fill (Fill.massage cells peak)
  if w.pneu.queue.any (·.cls == .massage) then
    (w.setAirQueue (w.pneu.queue.map fun x => if x.cls == .massage then e else x)).post .manifold
  else w.queueAir e

/-- A notice to the sequencer about its fill. -/
def Notice.aboutMassageFill : Notice → Bool
  | .massageEnd _ | .massageSuspended | .massageResumed => true
  | .budget _ | .sequence | .sequenceDone _ _ | .supportEnd _ _ | .supportReading _ _ | .supportVent _ | .manifold => false

/-- The sequencer withdraws its fill (R112); what was still to be told of it is told no more (log entry 7). -/
def Work.withdrawMassageFill (w : Work) : Work :=
  let w := w.setAirQueue (w.pneu.queue.filter (·.cls != .massage))
  let w := if w.pneu.manifold.active.any (·.cls == .massage) then w.endActive .withdrawn else w
  { w with inbox := w.inbox.filter (!·.aboutMassageFill) }

/-! ### Adjustments (R114, R116–R118, R120) -/

/-- The support target of a cell (R114). -/
def Pneu.supportTarget (p : Pneu) (c : CellIx) : Nat :=
  if c = 8 then 4 * p.lumbarUpper else if c = 9 then 4 * p.lumbarLower else 6 * p.bolster

def isBolster (c : CellIx) : Bool := 10 ≤ c.val

/-- The bolster hold withholds the cell (R119). -/
def Pneu.withheld (p : Pneu) (c : CellIx) : Bool := isBolster c && p.hold != .none

def Work.setAdj (w : Work) (c : CellIx) (a : Option Adjustment) : Work := w.setCell c { w.cell c with adj := a }

/-- Step 1 of the loop: a MEASURE is queued (R116). -/
def Work.adjMeasure (w : Work) (c : CellIx) (a : Adjustment) : Work :=
  (w.setAdj c (some { a with phase := .measure })).queueAir (.measure c)

/-- The next round of the loop: pending under a hold, the full vent of a target 0, or step 1 (R116, R117, R119). -/
def Work.adjRound (w : Work) (c : CellIx) (a : Adjustment) : Work :=
  if w.pneu.withheld c then w.setAdj c (some { a with phase := .pending })
  else if a.target = 0 then (w.setAdj c (some { a with phase := .vent })).orderVent c (msec 1500) true
  else w.adjMeasure c a

/-- No adjustment is in progress or pending (R120). -/
def Seat.supportQuiet (s : Seat) : Bool := Config.supportCells.all fun c => (s.cell c).adj.isNone

/-- The SUPPORT_STATE event (R120). -/
def supportStateItem (p : Pneu) : Item :=
  ⟨.event .supportState, byte1 p.lumbarUpper ++ byte1 p.lumbarLower ++ byte1 p.bolster ++ cellsBytes p.accepted ++
    cellsBytes p.failed⟩

/-- SUPPORT_STATE is sent when support becomes quiet with a report owed (R120). -/
def Work.reportSupport (w : Work) : Work :=
  if w.supportQuiet && (w.pneu.levelEnded || !w.pneu.accepted.isEmpty || !w.pneu.failed.isEmpty) then
    Work.emit { w with pneu := { w.pneu with accepted := [], failed := [], levelEnded := false } } (supportStateItem w.pneu)
  else w

/-- How an adjustment ends (R116). -/
inductive AdjEnd
  | settled | accepted | failed
deriving DecidableEq, Repr

/-- A cell joins a set. -/
def joinCell (c : CellIx) (l : List CellIx) : List CellIx := if l.contains c then l else l ++ [c]

/-- An adjustment ends and starts its cell's leak timer (R116, R118, R120). -/
def Work.endAdj (w : Work) (c : CellIx) (a : Adjustment) (e : AdjEnd) : Work :=
  let w := w.setCell c { w.cell c with adj := none, leakAt := some (w.now + Config.leakTime) }
  let p := w.pneu
  Work.reportSupport { w with pneu := { p with
    levelEnded := p.levelEnded || a.cause == .level
    accepted := if e == .accepted then joinCell c p.accepted else p.accepted
    failed := if e == .failed then joinCell c p.failed else p.failed } }

/-- The adjustment judges a reading (R116). -/
def Work.adjReading (w : Work) (c : CellIx) (p : Nat) : Work :=
  match (w.cell c).adj with
  | none => w
  | some a =>
    if a.phase != .measure then w
    else if a.target = 0 then w.adjRound c a
    else if a.target ≤ p + 2 && p ≤ a.target + 2 then w.endAdj c a .settled
    else if a.count = 4 then w.endAdj c a .accepted
    else
      let a := { a with count := a.count + 1 }
      if w.pneu.withheld c then w.adjRound c a
      else if p < a.target then (w.setAdj c (some { a with phase := .fill })).queueAir (.fill (Fill.support c a.target))
      else (w.setAdj c (some { a with phase := .vent })).orderVent c (msec (25 * (p - a.target))) false

/-- The end of a FILL, or of a MEASURE without a reading (R116); WITHDRAWN counts as ABORTED (log entry 40). -/
def Work.adjOpEnded (w : Work) (c : CellIx) (e : AirEnd) : Work :=
  match (w.cell c).adj with
  | none => w
  | some a =>
    if a.phase != .measure && a.phase != .fill then w
    else match e with
      | .failed => w.endAdj c a .failed
      | .target | .limit | .relief | .aborted | .withdrawn => w.adjRound c a

/-- The support vent of the cell is over (R116): the full vent of a target 0 settles, any other goes to the next round. -/
def Work.adjVentOver (w : Work) (c : CellIx) : Work :=
  match (w.cell c).adj with
  | none => w
  | some a =>
    if a.phase != .vent then w
    else if a.target = 0 && (w.cell c).last == some 0 then w.endAdj c a .settled
    else w.adjRound c a

/-- A queued FILL of the cell is replaced, in its place, by a MEASURE (R117). -/
def replaceFill (c : CellIx) (q : List AirEntry) : List AirEntry :=
  q.map fun e => match e with
    | .fill f => if f.cls == .support && f.cells == [c] then .measure c else e
    | .measure _ => e

/-- The cause of a merged request (R117). -/
def AdjCause.merge (a b : AdjCause) : AdjCause := if a == .level || b == .level then .level else .leak

/-- A request for an adjustment of a support cell (R117, R119). -/
def Work.requestAdj (w : Work) (c : CellIx) (cause : AdjCause) : Work :=
  let target := w.pneu.supportTarget c
  match (w.cell c).adj with
  | none => (w.setCell c { w.cell c with leakAt := none }).adjRound c ⟨target, 0, .measure, cause⟩
  | some a =>
    let queuedFill := a.phase == .fill && w.pneu.queue.any fun e => e != .measure c && e.cls == .support && e.cells == [c]
    let a := { a with target := target, count := 0, cause := a.cause.merge cause
                      phase := if queuedFill then .measure else a.phase }
    let w := if queuedFill then w.setAirQueue (replaceFill c w.pneu.queue) else w
    if a.phase == .pending && !w.pneu.withheld c then w.adjMeasure c a else w.setAdj c (some a)

def Work.requestAdjs (w : Work) (cells : List CellIx) (cause : AdjCause) : Work :=
  cells.foldl (fun w c => w.requestAdj c cause) w

/-- The three levels are set; each changed level requests adjustments of its cells, in cell order (R114). -/
def Work.setLevels (w : Work) (lu ll b : Nat) : Work :=
  let p := w.pneu
  let lu := min lu 10
  let ll := min ll 10
  let b := min b 5
  let changed := (if lu == p.lumbarUpper then [] else [8]) ++ (if ll == p.lumbarLower then [] else [9]) ++
    (if b == p.bolster then [] else Config.bolsterCells)
  Work.requestAdjs { w with pneu := { p with lumbarUpper := lu, lumbarLower := ll, bolster := b } } changed .level

/-- The leak timer of a cell expires (R118, R119, log entry 12). -/
def Work.leakExpired (w : Work) (c : CellIx) : Work :=
  let w := w.setCell c { w.cell c with leakAt := none }
  if isBolster c && w.pneu.hold == .postcrash then w
  else if w.pneu.supportTarget c = 0 && (w.cell c).state == .vented then
    w.setCell c { w.cell c with leakAt := some (w.now + Config.leakTime) }
  else w.requestAdj c .leak

/-! ### Support switches (R115) -/

/-- The lumbar and bolster switches (10.1). -/
inductive SupportSwitch
  | lumbarFore | lumbarAft | lumbarUp | lumbarDown | bolsterPlus | bolsterMinus
deriving DecidableEq, Repr

/-- The pre-crash state lets the press be served (R115). -/
def SupportSwitch.served (state : PcuState) : SupportSwitch → Bool
  | .lumbarFore | .lumbarAft | .lumbarUp | .lumbarDown => state != .protecting
  | .bolsterPlus | .bolsterMinus => state == .normal || state == .restoring

/-- The levels a served press asks for; each is clamped on its own (R115). -/
def Work.supportPress (w : Work) (k : SupportSwitch) : Work :=
  let p := w.pneu
  match k with
  | .lumbarFore => w.setLevels (p.lumbarUpper + 1) (p.lumbarLower + 1) p.bolster
  | .lumbarAft => w.setLevels (p.lumbarUpper - 1) (p.lumbarLower - 1) p.bolster
  | .lumbarUp => w.setLevels (p.lumbarUpper + 1) (p.lumbarLower - 1) p.bolster
  | .lumbarDown => w.setLevels (p.lumbarUpper - 1) (p.lumbarLower + 1) p.bolster
  | .bolsterPlus => w.setLevels p.lumbarUpper p.lumbarLower (p.bolster + 1)
  | .bolsterMinus => w.setLevels p.lumbarUpper p.lumbarLower (p.bolster - 1)

/-! ### The pre-crash unit (R119) -/

def Work.setHold (w : Work) (h : BolsterHold) : Work := { w with pneu := { w.pneu with hold := h } }

/-- A queued operation of the bolsters: of an adjustment of one of them, or the PROTECT FILL. -/
def AirEntry.ofBolster (e : AirEntry) : Bool := e.cells.any isBolster

/-- A notice that the pump lost its grant. -/
def Notice.pumpRevoked : Notice → Bool
  | .budget (.revoked .pump _) => true
  | .budget _ | .sequence | .sequenceDone _ _ | .supportEnd _ _ | .supportReading _ _ | .supportVent _ | .massageEnd _
  | .massageSuspended | .massageResumed | .manifold => false

/-- A FILL whose pump grant the event in progress has revoked is suspended now, ahead of the notice (R110). -/
def Work.suspendRevoked (w : Work) : Work :=
  if w.alloc.holds .pump then w
  else
    let w := w.suspendFill
    { w with inbox := w.inbox.filter (!·.pumpRevoked) }

/-- Enter PROTECTING: queued bolster support operations become pending adjustments, then the PROTECT FILL (R119). A FILL
whose grant the change has just revoked is suspended first, so that it is one of the queued operations. -/
def Work.holdProtect (w : Work) : Work :=
  let w := w.setHold .protect
  let w := w.suspendRevoked
  let gone := w.pneu.queue.filter fun e => e.cls == .support && e.ofBolster
  let w := w.setAirQueue (w.pneu.queue.filter fun e => !(e.cls == .support && e.ofBolster))
  let w := gone.foldl (fun w e => e.cells.foldl (fun w c =>
    w.setAdj c ((w.cell c).adj.map fun a => { a with phase := .pending })) w) w
  w.requestProtectFill

/-- The hold becomes NONE: LEVEL adjustments for the four bolsters (R119). -/
def Work.holdNone (w : Work) : Work := ((w.setHold .none).requestAdjs Config.bolsterCells .level).post .manifold

/-- Enter POSTCRASH (R119). -/
def Work.holdPostcrash (w : Work) : Work :=
  let w := (w.setHold .postcrash).endActive .aborted
  let massage := w.pneu.queue.any (·.cls == .massage)
  let w := w.setAirQueue (w.pneu.queue.filter fun e => !e.ofBolster && e.cls != .massage)
  let w := Config.bolsterCells.foldl (fun w c => w.setCell c { w.cell c with adj := none, leakAt := none }) w
  let w := if massage then w.post (.massageEnd .aborted) else w
  let w := (Config.bolsterCells ++ Config.massageCells.filter w.cellPresent).foldl
    (fun w c => w.orderVent c (msec 3000) true) w
  w.post .manifold

/-- The pneumatic controller follows a change of the pre-crash state (R119); the manifold looks again (log entry 13). -/
def Work.pneuFollows (w : Work) (old new : PcuState) : Work :=
  match new with
  | .protecting => w.holdProtect
  | .holding => w.post .manifold
  | .postcrash => w.holdPostcrash
  | .restoring | .normal => if w.pneu.hold == .none && old != .postcrash then w.post .manifold else w.holdNone

/-! ### Variant 3 (R102, R199) -/

/-- The massage cells become absent: their vents stop and their valves close (R199). -/
def Work.massageCellsAbsent (w : Work) : Work :=
  Config.massageCells.foldl (fun w c => w.setCell c (w.cell c).ventStopped) w

/-- The massage cells become present: HOLDING, last pressure absent (R199). -/
def Work.massageCellsPresent (w : Work) : Work :=
  Config.massageCells.foldl (fun w c => w.setCell c { w.cell c with state := .holding, last := none }) w

/-! ### RESTART and SLEEP (R122) -/

/-- The hold that goes with a pre-crash state after RESTART (R119, R122). -/
def holdOf : PcuState → BolsterHold
  | .protecting | .holding => .protect
  | .postcrash => .postcrash
  | .normal | .restoring => .none

/-- A cell when everything is cancelled: its vent stopped, its adjustment gone, its leak timer as given. -/
def Cell.cancelled (leak : Option Time) (c : Cell) : Cell := { c.ventStopped with adj := none, leakAt := leak }

/-- Operations, queue, adjustments and the report owed are dropped; nothing is handed on (R122). `leak` is what the leak
timers of the support cells become. -/
def Work.cancelPneu (w : Work) (leak : Option Time) : Work :=
  let w := w.leaveManifold.setAirQueue []
  let w := Config.massageCells.foldl (fun w c => w.setCell c ((w.cell c).cancelled none)) w
  let w := Config.supportCells.foldl (fun w c => w.setCell c ((w.cell c).cancelled leak)) w
  { w with pneu := { w.pneu with accepted := [], failed := [], levelEnded := false } }

/-- RESTART (R122); the pre-crash state has already changed. -/
def Work.restartPneu (w : Work) : Work :=
  (w.cancelPneu (some (w.now + Config.leakTime))).setHold (holdOf w.pcu.state)

/-- Entering SLEEP (R122). -/
def Work.sleepPneu (w : Work) : Work :=
  Config.allCells.foldl (fun w c => w.setCell c { w.cell c with last := none }) (w.cancelPneu none)

/-- Waking starts the leak timers (R118, R122). -/
def Work.wakePneu (w : Work) : Work :=
  Config.supportCells.foldl (fun w c => w.setCell c { w.cell c with leakAt := some (w.now + Config.leakTime) }) w

end Sys2Proof.Machine
end

