-- ==== Sys2Proof/Machine/Massage.lean ====
section
/-!
DEFINITION. The massage sequencer (chapter 6): sessions, steps, pauses, the stream program, recall and restore.
-/
namespace Sys2Proof.Machine

open Sys2Proof

def Work.modMassage (w : Work) (f : Massage → Massage) : Work := { w with massage := f w.massage }

/-- A session is RUNNING or PAUSED (R124). -/
def Massage.inSession (m : Massage) : Bool := m.state == .running || m.state == .paused

/-- Some pause cause is present (R123). -/
def Massage.anyCause (m : Massage) : Bool := m.byPump || m.byShed || m.byProtect

/-- The pause causes in the order PUMP, SHED, PROTECT. -/
def Massage.causes (m : Massage) : List Nat :=
  (if m.byPump then [0] else []) ++ (if m.byShed then [1] else []) ++ (if m.byProtect then [2] else [])

/-! ### MASSAGE_STATE (R141) -/

/-- The session time left in whole seconds, rounded up (R129); 0 while the timer is stopped (log entry 10). -/
def Massage.secondsLeft (m : Massage) (now : Time) : Nat := (unitsLeft (seconds 1) now m.sessionEnd).getD 0

def massageStateItem (m : Massage) (now : Time) (reason : MassageReason) : Item :=
  ⟨.event .massageState, byte1 m.state.code ++ byte1 reason.code ++ byte1 m.program ++ optByte m.pendingProgram ++
    byte1 m.intensity ++ mapBytes 1 m.causes ++ word2 (m.secondsLeft now) ++ byte1 m.queue.length⟩

def Work.tellMassage (w : Work) (reason : MassageReason) : Work := w.emit (massageStateItem w.massage w.now reason)

/-! ### Start conditions (R124, R128) -/

/-- The first start condition that fails, as its refusal reason (R128). -/
def Seat.massageRefusal (s : Seat) : Option MassageReason :=
  if s.variant == 3 then some .refusedAbsent
  else if s.ignition == .off then some .refusedState
  else if !(s.pcu.state == .normal || s.pcu.state == .restoring) then some .refusedState
  else if s.shedComfort then some .refusedShed
  else none

/-! ### Programs and the stream watch (R126, R137, R139) -/

/-- The stream watch runs exactly while program 7 is in force in RUNNING; it starts at 0 (R139). -/
def Massage.startWatch (m : Massage) (now : Time) : Massage :=
  { m with watch := if m.program = 7 && m.state == .running then some (now + Config.watchTime) else none }

/-- A program becomes the program in force; a change out of 7 empties the stream step queue (R126, R137). -/
def Massage.setProgram (m : Massage) (p : Nat) : Massage :=
  { m with program := p, pendingProgram := none, queue := if m.program = 7 && p != 7 then [] else m.queue }

/-- The program in force changes; it is told while a session runs, and the watch follows (R126, R139). -/
def Work.changeProgram (w : Work) (p : Nat) : Work :=
  if p = w.massage.program then w.modMassage fun m => { m with pendingProgram := none }
  else
    let w := w.modMassage fun m => (m.setProgram p).startWatch w.now
    if w.massage.inSession then w.tellMassage .setting else w

/-- A pending program takes effect (R126). -/
def Work.pendingTakesEffect (w : Work) : Work :=
  match w.massage.pendingProgram with
  | none => w
  | some p => w.changeProgram p

/-! ### Steps (R130, R132, R138) -/

/-- A step made of its parts, about to start. -/
def Step.make (index : Option Nat) (fill vent : List CellIx) (hold peak : Nat) : Step := ⟨index, fill, vent, hold, peak, .fill⟩

/-- The HOLD step (R138). -/
def Step.holdStep : Step := Step.make none [] [] 500 0

/-- The step `i` of the program in force, or for program 7 the head of the stream step queue or the HOLD step; with the
record after it (R130, R138). -/
def Massage.stepAt (m : Massage) (i : Nat) : Step × Massage :=
  if m.program = 7 then
    match m.queue with
    | [] => (Step.holdStep, m)
    | q :: rest =>
      (Step.make none q.fill q.vent q.hold (min q.peak (Config.intensityPeak m.intensity)), { m with queue := rest })
  else
    match (Config.programSteps m.program)[i]? with
    | none => (Step.holdStep, m)
    | some p => (Step.make (some i) p.fill p.vent p.hold (Config.intensityPeak m.intensity), m)

/-- The step index after the current step, looping (R130). -/
def Massage.nextIndex (m : Massage) : Nat :=
  match m.step.bind (·.index) with
  | none => 0
  | some i => if i + 1 < (Config.programSteps m.program).length then i + 1 else 0

/-- The hold of the current step starts (R130). -/
def Work.startHold (w : Work) : Work :=
  w.modMassage fun m => { m with
    step := m.step.map fun s => { s with phase := .hold }
    holdEnd := m.step.map fun s => w.now + msec s.hold }

/-- A step starts: vents, then the fill or the hold (R130). -/
def Work.startStep (w : Work) (i : Nat) : Work :=
  let (s, m) := w.massage.stepAt i
  let w : Work := { w with massage := { m with step := some s, holdEnd := none } }
  let w := s.vent.foldl (fun w c => w.orderVent c (msec 1500) true) w
  if s.fill.isEmpty then w.startHold else w.requestMassageFill s.fill s.peak

/-- The next step at the end of a step (R130). -/
def Work.nextStep (w : Work) : Work :=
  match w.massage.pendingProgram with
  | some _ => w.pendingTakesEffect.startStep 0
  | none => w.startStep w.massage.nextIndex

/-! ### Start, pause, resume and end (R128, R133–R136) -/

/-- A session starts (R128, R129). -/
def Work.startSession (w : Work) (reason : MassageReason) : Work :=
  let w := w.modMassage fun m => Massage.startWatch { m with
    state := .running, sessionEnd := some (w.now + Config.sessionTime), ventingEnd := none, stepEnded := false
    byPump := false, byShed := false, byProtect := false } w.now
  (w.startStep 0).tellMassage reason

/-- The record without timers, step and causes (R135, R136). -/
def Massage.cleared (m : Massage) : Massage :=
  { m with step := none, stepEnded := false, byPump := false, byShed := false, byProtect := false, sessionEnd := none
           holdEnd := none, ventingEnd := none, watch := none }

/-- Entering VENTING (R135). -/
def Work.enterVenting (w : Work) (reason : MassageReason) : Work :=
  let w := w.withdrawMassageFill.modMassage fun m => { m.cleared with state := .venting, reason := reason }
  let w := w.pendingTakesEffect
  let w := (Config.massageCells.filter w.cellPresent).foldl (fun w c => w.orderVent c (msec 1500) true) w
  let w := w.modMassage fun m => { m with ventingEnd := some (w.now + Config.ventingTime), queue := [], watch := none }
  w.tellMassage reason

/-- The session, if one is held, ends through VENTING. -/
def Work.endSession (w : Work) (reason : MassageReason) : Work := if w.massage.inSession then w.enterVenting reason else w

/-- The sequencer enters OFF from VENTING (R128, R135). -/
def Work.ventingToOff (w : Work) (reason : MassageReason) : Work :=
  (w.modMassage fun m => { m with state := .off, ventingEnd := none }).tellMassage reason

/-- A session, or its VENTING, ends straight in OFF (R136). -/
def Work.stopMassage (w : Work) : Work :=
  let w := w.withdrawMassageFill.modMassage fun m => { m.cleared with state := .off }
  w.pendingTakesEffect.modMassage fun m => { m with queue := [], watch := none }

/-- The direct end in OFF that is told (R136). -/
def Work.directOff (w : Work) (reason : MassageReason) : Work :=
  if w.massage.state == .off then w else w.stopMassage.tellMassage reason

/-- The session resumes: RUNNING, told, and the next step if the step was counted ended (R133). -/
def Work.resumeWith (w : Work) (next : Work → Work) : Work :=
  let ended := w.massage.stepEnded
  let w := w.modMassage fun m => Massage.startWatch { m with state := .running, stepEnded := false } w.now
  let w := w.tellMassage .resume
  if ended then next w else w

/-- After a cause has left the set: resume, or tell the changed set (R133). -/
def Work.causeLeft (w : Work) (next : Work → Work) : Work :=
  if w.massage.anyCause then w.tellMassage .pause else w.resumeWith next

/-- SHED or PROTECT joins the causes, `f` adding it (R133). -/
def Work.addCause (w : Work) (f : Massage → Massage) : Work :=
  if w.massage.inSession then
    let before := w.massage.causes
    let was := w.massage.state
    let counted := was == .running || w.massage.byPump
    let w := if counted then w.withdrawMassageFill else w
    let w := w.modMassage fun m =>
      f { m with state := .paused, byPump := false, holdEnd := none, watch := none, stepEnded := m.stepEnded || counted }
    if was == .running || w.massage.causes != before then w.tellMassage .pause else w
  else w

/-- shed_comfort as in force reaches the sequencer (R133). -/
def Work.massageShed (w : Work) : Work :=
  if w.shedComfort then (if w.massage.byShed then w else w.addCause fun m => { m with byShed := true })
  else if w.massage.byShed then (w.modMassage fun m => { m with byShed := false }).causeLeft Work.nextStep
  else w

/-- PROTECT joins the causes: the pre-crash unit enters PROTECTING (R133). -/
def Work.massageProtect (w : Work) : Work :=
  if w.massage.byProtect then w else w.addCause fun m => { m with byProtect := true }

/-- PROTECT leaves the causes: the pre-crash unit enters NORMAL (R133). -/
def Work.massageUnprotect (w : Work) : Work :=
  if w.massage.byProtect then (w.modMassage fun m => { m with byProtect := false }).causeLeft Work.nextStep else w

/-- A session that no cause pauses resumes. -/
def Work.resumeIfFree (w : Work) (next : Work → Work) : Work := if w.massage.anyCause then w else w.resumeWith next

/-- PROTECT leaves the causes at the entry to RESTORING: a changed set is told, and a session left without causes waits for
the snapshot (R133). -/
def Work.massageUnprotectHeld (w : Work) : Work :=
  if w.massage.byProtect then
    let w := w.modMassage fun m => { m with byProtect := false }
    if w.massage.anyCause then w.tellMassage .pause else w
  else w

/-- The snapshot's session: the program to restore, where the snapshot shows massage RUNNING or PAUSED (R140). -/
def Snapshot.session (k : Snapshot) : Option Nat :=
  if k.massage == .running || k.massage == .paused then some k.program else none

/-- The sequencer takes the snapshot handed on entering RESTORING, after PROTECT has left the causes: a PAUSED session takes
its program, and resumes with step 0 if no cause remains; without one it resumes as R133 gives (R133, R140). -/
def Work.massageRestore (w : Work) (snap : Option Snapshot) : Work :=
  if w.massage.state == .paused then
    match snap.bind Snapshot.session with
    | some p => (w.changeProgram p).resumeIfFree fun w => w.startStep 0
    | none => w.resumeIfFree Work.nextStep
  else w

/-! ### The fill's reports (R131, R134) -/

/-- The current step awaits its fill (R131). -/
def Massage.awaitsFill (m : Massage) : Bool := m.inSession && !m.stepEnded && m.step.any (·.phase == .fill)

/-- Cause PUMP leaves the set (R134). -/
def Work.pumpCauseLeft (w : Work) : Work :=
  if w.massage.byPump then (w.modMassage fun m => { m with byPump := false }).causeLeft Work.nextStep else w

/-- The fill was aborted: the step counts as ended and PROTECT is a cause (R131). -/
def Work.fillAborted (w : Work) : Work :=
  let was := w.massage.state
  let before := w.massage.causes
  let w := w.modMassage fun m =>
    { m with stepEnded := true, state := .paused, byPump := false, byProtect := true, watch := none }
  if was == .running || w.massage.causes != before then w.tellMassage .pause else w

/-- An end of the massage fill is handed back (R131). -/
def Work.massageFillEnded (w : Work) (e : AirEnd) : Work :=
  if w.massage.awaitsFill then
    match e with
    | .target | .limit | .relief | .withdrawn => w.startHold.pumpCauseLeft
    | .failed => w.enterVenting .pumpFault
    | .aborted => w.fillAborted
  else w

/-- The massage fill was suspended (R134). -/
def Work.massageFillSuspended (w : Work) : Work :=
  if w.massage.awaitsFill then
    (w.modMassage fun m => { m with byPump := true, state := .paused, watch := none }).tellMassage .pause
  else w

/-- The massage fill pumps again (R134). -/
def Work.massageFillResumed (w : Work) : Work := if w.massage.awaitsFill then w.pumpCauseLeft else w

/-! ### Comfort requests and recall (R125–R128, R140) -/

/-- A program edge (R126). -/
def Work.programEdge (w : Work) (p : Nat) : Work :=
  if !Config.knownProgram p then w
  else if w.massage.inSession then
    w.modMassage fun m => { m with pendingProgram := if p = m.program then none else some p }
  else w.modMassage fun m => m.setProgram p

/-- An intensity field taken into 1–5 (R127). -/
def clampIntensity (i : Nat) : Nat := max 1 (min 5 i)

/-- An intensity edge (R127). -/
def Work.intensityEdge (w : Work) (i : Nat) : Work :=
  if clampIntensity i = w.massage.intensity then w
  else
    let w := w.modMassage fun m => { m with intensity := clampIntensity i }
    if w.massage.inSession then w.tellMassage .setting else w

/-- The start of a session is asked for out of OFF or VENTING (R128). -/
def Work.askStart (w : Work) (reason : MassageReason) : Work :=
  match w.massageRefusal with
  | none => w.startSession reason
  | some r =>
    let w := (w.modMassage fun m => { m with ventingEnd := none }).tellMassage r
    if w.massage.state == .venting then w.ventingToOff .request else w

/-- The session timer restarts (R129). -/
def Work.renewSession (w : Work) : Work := w.modMassage fun m => { m with sessionEnd := some (w.now + Config.sessionTime) }

/-- A switch edge (R128). -/
def Work.switchEdge (w : Work) (on : Bool) : Work :=
  if on then (if w.massage.inSession then w.renewSession else w.askStart .start)
  else w.endSession .request

/-- The massage fields of an accepted COMFORT_REQUEST (R125). -/
def Work.comfortMassage (w : Work) (f : ComfortFields) : Work :=
  let old := w.massage.baseline
  let w := w.modMassage fun m => { m with baseline := some (f.on, f.program, f.intensity) }
  match old with
  | none => w
  | some (on, program, intensity) =>
    let w := if f.program = program then w else w.programEdge f.program
    let w := if f.intensity = intensity then w else w.intensityEdge f.intensity
    if f.on == on then w else w.switchEdge f.on

/-- A recall hands a massage preference (R140). -/
def Work.massageRecall (w : Work) (program intensity : Nat) : Work :=
  if w.massage.inSession then
    let changed := clampIntensity intensity != w.massage.intensity
    let w := w.modMassage fun m => { m with intensity := clampIntensity intensity }
    let w := (w.programEdge program).renewSession
    if changed then w.tellMassage .setting else w
  else
    let w := w.modMassage fun m => { m with intensity := clampIntensity intensity }
    (w.programEdge program).askStart .recall

/-- What the profile store is told: program and intensity in force while RUNNING or PAUSED (R140). -/
def Massage.preference (m : Massage) : Option (Nat × Nat) := if m.inSession then some (m.program, m.intensity) else none

/-- The ignition has left ACC and RUN (R135). -/
def Work.massageIgnition (w : Work) : Work := if w.ignition == .off then w.endSession .ignition else w

/-! ### The stream (R137, R139) -/

/-- A MASSAGE_STREAM frame (R137, R139). -/
def Work.streamFrame (w : Work) (q : StreamStep) : Work :=
  let takes := w.massage.inSession && (w.massage.program = 7 || w.massage.pendingProgram == some 7)
  w.modMassage fun m => { m with
    queue := if takes && m.queue.length < Config.streamQueueMax then m.queue ++ [q] else m.queue
    watch := m.watch.map fun _ => w.now + Config.watchTime }

end Sys2Proof.Machine
end

