-- ==== Sys2Proof/Machine/Heater.lean ====
section
/-!
DEFINITION. The heater controller (chapter 7): measurement, conversion, faults, cut-off, duty, claims, levels and reports.
-/
namespace Sys2Proof.Machine

open Sys2Proof

/-- The zone index of the fault table: CUSHION 0, BACK 1 (R146, 9.8). -/
def zoneIndex : Zone → Nat
  | .cushion => 0 | .back => 1

/-! ### Conversion (R145) -/

/-- What a measurement gives. -/
inductive Measured
  | opened | short | temp (t10 : Int)
deriving DecidableEq, Repr

/-- The interpolation of one segment. -/
def interpolate (c : Nat) (s : Nat × Nat × Int) : Int := s.2.2 + ((100 * (s.1 - c) / (s.1 - s.2.1) : Nat) : Int)

/-- The table of R145. -/
def convertCount (c : Nat) : Measured :=
  if 4095 ≤ c then .opened
  else if c < 40 then .short
  else if 3160 ≤ c then .temp (-200)
  else if c < 57 then .temp 700
  else match Config.segments.find? fun s => c < s.1 && s.2.1 ≤ c with
    | some s => .temp (interpolate c s)
    | none => .temp 700

/-! ### Trim, permission, duty and claim (R147, R148, R150, R151) -/

/-- The trim of a zone (R147). -/
def Seat.trim (s : Seat) : Zone → Int
  | .cushion => s.power.config.cushionTrim | .back => s.power.config.backTrim

/-- T10c, absent with T10 (R147). -/
def Seat.corrected (s : Seat) (z : Zone) : Option Int := (s.zone z).t10.map fun t => t + 5 * s.trim z

/-- Heating is permitted (R148). -/
def Seat.heatingPermitted (s : Seat) : Bool :=
  s.ignition == .run && s.pcu.state != .protecting && s.pcu.state != .postcrash && s.band == some .normal && !s.shedComfort

/-- The requested duty a zone needs now (R150). -/
def Seat.dutyNeeded (s : Seat) (z : Zone) : Nat :=
  let r := s.zone z
  if r.fault != .none || r.cutoff || r.level = 0 || !s.heatingPermitted then 0
  else match s.corrected z with
    | none => 0
    | some t => (max 0 (min 100 (Config.heatTarget r.level - t))).toNat

/-- The claim of a requested duty: ceil(full × duty / 100) (R150). -/
def heatClaimOf (z : Zone) (duty : Nat) : Nat := (Config.fullDraw z * duty + 99) / 100

/-- The effective duty (R151). -/
def Seat.effectiveDuty (s : Seat) (z : Zone) : Nat :=
  min (s.zone z).dutyReq (100 * s.alloc.heatGrant z / Config.fullDraw z)

/-- The requested duty and, where it differs, the claim of one zone are brought up to date (R150). -/
def Work.refreshZone (w : Work) (z : Zone) : Work :=
  let d := w.dutyNeeded z
  let w := w.setZone z { w.zone z with dutyReq := d }
  if heatClaimOf z d = w.alloc.heatClaim z then w else w.allocate (Allocating.setHeat z (heatClaimOf z d))

/-- Both zones. Where one event changes both claims, the cushion's reaches the allocator first (R148, log entry 50). -/
def Work.refreshHeat (w : Work) : Work := (w.refreshZone .cushion).refreshZone .back

/-- The duty applied follows a lower effective duty at once (R151). -/
def Work.trimApplied (w : Work) : Work :=
  let f := fun (w : Work) z => w.setZone z { w.zone z with applied := min (w.zone z).applied (w.effectiveDuty z) }
  f (f w .cushion) .back

/-! ### Status and HEAT_STATE (R143, R157) -/

/-- The status of a zone (R143). -/
def Seat.zoneStatus (s : Seat) (z : Zone) : ZoneStatus :=
  let r := s.zone z
  if r.fault != .none then .fault
  else if r.cutoff then .cutoff
  else if r.level = 0 then .off
  else if !s.heatingPermitted then .waiting
  else .heating

/-- One zone's fields of HEAT_STATE (R157). -/
def Seat.heatFields (s : Seat) (z : Zone) : List Byte :=
  let r := s.zone z
  byte1 r.level ++ optByte r.held ++ byte1 (s.zoneStatus z).code ++ optWord2 (s.corrected z) ++ byte1 r.dutyReq ++
    byte1 (s.effectiveDuty z) ++ optByte (unitsLeft (seconds 60) s.now r.stepDown)

def Work.tellHeat (w : Work) (reason : HeatReason) : Work :=
  w.event .heatState (byte1 reason.code ++ w.heatFields .cushion ++ w.heatFields .back)

/-- The reason of a change of status, FAULT before CUTOFF, none where neither is entered or left (R157, log entry 11). -/
def statusReason (old new : ZoneStatus) : Option HeatReason :=
  if old == new then none
  else if new == .fault then some .sensorFault
  else if old == .fault then some .sensorOk
  else if new == .cutoff then some .overtemp
  else if old == .cutoff then some .overtempEnd
  else none

/-! ### Measurements (R144–R146, R149) -/

/-- The cut-off of a zone is judged on its T10c (R149). -/
def Work.judgeCutoff (w : Work) (z : Zone) : Work :=
  match w.corrected z with
  | none => w
  | some t =>
    let r := w.zone z
    if !r.cutoff && 450 ≤ t then (w.setZone z { r with cutoff := true }).raiseLive .heaterOvertemp (zoneIndex z)
    else if r.cutoff && t < 430 then (w.setZone z { r with cutoff := false }).clearLive .heaterOvertemp (zoneIndex z)
    else w

/-- The sensor fault becomes OPEN (R146). -/
def Work.sensorOpen (w : Work) (z : Zone) : Work :=
  let r := w.zone z
  let w := w.setZone z { r with fault := .opened, validRun := 0 }
  if r.fault == .opened then w else (w.clearLive .heaterShort (zoneIndex z)).raiseLive .heaterOpen (zoneIndex z)

/-- The sensor fault becomes SHORT (R146). -/
def Work.sensorShort (w : Work) (z : Zone) : Work :=
  let r := w.zone z
  let w := w.setZone z { r with fault := .short, validRun := 0 }
  if r.fault == .short then w else (w.clearLive .heaterOpen (zoneIndex z)).raiseLive .heaterShort (zoneIndex z)

/-- A valid measurement (R146, R149). -/
def Work.sensorValid (w : Work) (z : Zone) (t : Int) : Work :=
  let r := { w.zone z with t10 := some t }
  let w :=
    if r.fault == .none then w.setZone z r
    else if r.validRun + 1 = 3 then
      ((w.setZone z { r with fault := .none, validRun := 0 }).clearLive .heaterOpen (zoneIndex z)).clearLive .heaterShort
        (zoneIndex z)
    else w.setZone z { r with validRun := r.validRun + 1 }
  w.judgeCutoff z

/-- The output of a zone's mat: high for the applied duty × 1 ms from the start of the period, and low while a measurement
of the zone runs or is due. A period that begins with a measurement thus has its on-time from the measurement's end to
where it would have ended (R144, R151). -/
def Seat.heaterOutput (s : Seat) (z : Zone) : Bool :=
  s.band.isSome && (s.zone z).measuring.isNone && !s.heat.intervalAt.any (· ≤ s.now) &&
    decide (s.now < s.heat.periodStart + msec (s.zone z).applied)

/-- The first period in which an output is driven on since the reset is an output start (R151, R198). -/
def Work.heaterDriven (w : Work) (on : Bool) : Work :=
  if on && !w.heat.driven then Work.outputStart { w with heat := { w.heat with driven := true } } else w

/-- A measurement of a zone ends (R144–R146, R149, R150). -/
def Work.measured (w : Work) (z : Zone) (count : Nat) : Work :=
  let old := w.zoneStatus z
  let w := w.setZone z { w.zone z with measuring := none }
  let w := match convertCount count with
    | .opened => w.sensorOpen z
    | .short => w.sensorShort z
    | .temp t => w.sensorValid z t
  let w := w.refreshHeat.trimApplied
  let w := w.heaterDriven (w.heaterOutput z)
  match statusReason old (w.zoneStatus z) with
  | none => w
  | some r => w.tellHeat r

/-- A control interval begins: both zones are measured (R144). -/
def Work.intervalStart (w : Work) : Work :=
  { w with heat := { w.heat with
      intervalAt := some (w.now + Config.controlInterval)
      cushion := { w.heat.cushion with measuring := some w.now }
      back := { w.heat.back with measuring := some w.now } } }

/-- An output period begins: the effective duties apply (R144, R151). A zone that is being measured, or is about to be, is
held low. -/
def Work.periodBegin (w : Work) : Work :=
  let w := w.setZone .cushion { w.zone .cushion with applied := w.effectiveDuty .cushion }
  let w := w.setZone .back { w.zone .back with applied := w.effectiveDuty .back }
  let w : Work := { w with heat := { w.heat with periodStart := w.now, periodAt := some (w.now + Config.outputPeriod) } }
  w.heaterDriven (w.heaterOutput .cushion || w.heaterOutput .back)

/-! ### Levels (R152–R156) -/

/-- What a level request came to (R153). -/
inductive LevelOutcome
  | refused | held | same | changed
deriving DecidableEq, Repr

/-- The step-down timer that goes with a level just taken (R153, R155). -/
def stepDownFor (level : Nat) (now : Time) : Option Time := if level = 3 then some (now + Config.stepDownTime) else none

/-- A level request of a zone (R153). -/
def Work.levelRequest (w : Work) (z : Zone) (level : Nat) : Work × LevelOutcome :=
  let r := w.zone z
  if w.pcu.state == .postcrash then (w, .refused)
  else if w.ignition == .off then (w.setZone z { r with held := some level }, .held)
  else if level = r.level then
    (if level = 3 then w.setZone z { r with stepDown := stepDownFor 3 w.now } else w, .same)
  else (w.setZone z { r with level := level, held := none, stepDown := stepDownFor level w.now }, .changed)

/-- One HEAT_STATE for the outcomes of one event (R157). -/
def outcomeReason (taken : HeatReason) (l : List LevelOutcome) : Option HeatReason :=
  if l.contains .refused then some .refusedState
  else if l.contains .held then some .held
  else if l.contains .changed then some taken
  else none

/-- Level requests of one event, in zone order, with their one HEAT_STATE (R153, R157). -/
def Work.levelRequests (w : Work) (taken : HeatReason) (reqs : List (Zone × Nat)) : Work :=
  let (w, outcomes) := reqs.foldl (fun (acc : Work × List LevelOutcome) r =>
    let (w, o) := acc.1.levelRequest r.1 r.2
    (w, acc.2 ++ [o])) (w, [])
  let w := w.refreshHeat
  match outcomeReason taken outcomes with
  | none => w
  | some r => w.tellHeat r

/-- The heat fields of an accepted COMFORT_REQUEST (R152). -/
def Work.comfortHeat (w : Work) (f : ComfortFields) : Work :=
  let old := w.heat.baseline
  let w : Work := { w with heat := { w.heat with baseline := some (f.cushion, f.back) } }
  match old with
  | none => w
  | some (c, b) =>
    w.levelRequests .request
      ((if f.cushion = c then [] else [(.cushion, min f.cushion 3)]) ++ (if f.back = b then [] else [(.back, min f.back 3)]))

/-- A recall hands a heat preference (R90, R153). -/
def Work.heatRecall (w : Work) (cushion back : Nat) : Work :=
  w.levelRequests .recall [(.cushion, min cushion 3), (.back, min back 3)]

/-- Both levels 0 and both step-down timers stopped. -/
def Work.levelsOff (w : Work) : Work :=
  let w := w.setZone .cushion { w.zone .cushion with level := 0, stepDown := none }
  w.setZone .back { w.zone .back with level := 0, stepDown := none }

/-- A level in force is above 0. -/
def Seat.anyLevel (s : Seat) : Bool := 0 < s.heat.cushion.level || 0 < s.heat.back.level

/-- The ignition has gone from ACC or RUN to OFF (R154). -/
def Work.heatIgnitionOff (w : Work) : Work :=
  let any := w.anyLevel
  let w := w.levelsOff.refreshHeat
  if any then w.tellHeat .ignition else w

/-- A zone takes its held level (R154). -/
def Work.takeHeld (w : Work) (z : Zone) : Work :=
  match (w.zone z).held with
  | none => w
  | some l => w.setZone z { w.zone z with level := l, held := none, stepDown := stepDownFor l w.now }

/-- The ignition has gone from OFF to ACC or RUN (R154). -/
def Work.heatIgnitionOn (w : Work) : Work :=
  let c := w.heat.cushion.level
  let b := w.heat.back.level
  let w := ((w.takeHeld .cushion).takeHeld .back).refreshHeat
  if w.heat.cushion.level = c && w.heat.back.level = b then w else w.tellHeat .held

/-- The step-down of a zone (R155). -/
def Work.stepDownEnds (w : Work) (z : Zone) : Work :=
  ((w.setZone z { w.zone z with level := 2, stepDown := none }).refreshHeat).tellHeat .stepDown

/-- Held levels are dropped. -/
def Work.dropHeld (w : Work) : Work :=
  let w := w.setZone .cushion { w.zone .cushion with held := none }
  w.setZone .back { w.zone .back with held := none }

/-- The heater controller follows a change of the pre-crash state (R148, R156). -/
def Work.heatFollows (w : Work) (new : PcuState) : Work :=
  if new == .postcrash then
    let any := w.anyLevel
    let w := w.levelsOff.dropHeld.refreshHeat
    if any then w.tellHeat .crash else w
  else w.refreshHeat

/-- A changed trim: the cut-off is judged and the duty recomputed (R147). Where both zones change status, the one HEAT_STATE
carries the cushion's reason (R157, log entry 48). -/
def Work.trimsChanged (w : Work) (old : Seat) : Work :=
  let oc := old.zoneStatus .cushion
  let ob := old.zoneStatus .back
  let w := if w.trim .cushion == old.trim .cushion then w else w.judgeCutoff .cushion
  let w := if w.trim .back == old.trim .back then w else w.judgeCutoff .back
  let w := w.refreshHeat
  match (statusReason oc (w.zoneStatus .cushion)).or (statusReason ob (w.zoneStatus .back)) with
  | none => w
  | some r => w.tellHeat r

/-! ### RESTART and SLEEP (R158) -/

/-- RESTART: levels and held levels dropped; the output start counts anew (R151, R158). -/
def Work.restartHeat (w : Work) : Work :=
  let any := w.anyLevel
  let w := w.levelsOff.dropHeld.refreshHeat
  let w : Work := { w with heat := { w.heat with driven := false } }
  if any then w.tellHeat .restart else w

/-- The zone record on entering SLEEP (R158). That the valid run is kept, as the table has it, although the closing text
asks for three valid measurements after waking, is log entry 57 (DESIGN CHOICE). -/
def ZoneRec.asleep (r : ZoneRec) : ZoneRec :=
  { r with level := 0, stepDown := none, t10 := none, dutyReq := 0, applied := 0, measuring := none }

/-- Entering SLEEP: no interval runs (R144, R158). -/
def Work.sleepHeat (w : Work) : Work :=
  { w with heat := { w.heat with cushion := w.heat.cushion.asleep, back := w.heat.back.asleep
                                 intervalAt := none, periodAt := none } }

/-- Waking starts the intervals (R144). -/
def Work.wakeHeat (w : Work) : Work :=
  { w with heat := { w.heat with intervalAt := some w.now, periodAt := some w.now, periodStart := w.now } }

end Sys2Proof.Machine
end

