-- ==== Sys2Proof/Machine/Precrash.lean ====
section
/-!
DEFINITION. The pre-crash unit (chapter 8): deliveries, the snapshot, protecting, holding, restoring and post-crash.
-/
namespace Sys2Proof.Machine

open Sys2Proof

def Work.modPcu (w : Work) (f : Pcu → Pcu) : Work := { w with pcu := f w.pcu }

/-! ### Needed axes and the snapshot (R162) -/

/-- The axis stands on the wrong side of its protect target, or is unreferenced (R162). -/
def AxisRec.wrongSide (r : AxisRec) (target : Dir × Int) : Bool :=
  !r.referenced || match target.1 with
    | .high => r.position < target.2
    | .low => target.2 < r.position

/-- The axes a protect move needs, in axis index order (R162). -/
def Seat.neededAxes (s : Seat) : List Axis :=
  Axis.all.filter fun a => s.present a && (Config.protectTarget a).any fun t => (s.axis a).wrongSide t

/-- The snapshot as the seat stands (R162). -/
def Seat.takeSnapshot (s : Seat) : Snapshot where
  entries := (s.neededAxes.filter fun a => (s.axis a).referenced).map fun a => (a, (s.axis a).position)
  bolster := s.pneu.bolster
  massage := s.massage.state
  program := s.massage.program

/-- The PROTECT member of a needed axis: TARGET where referenced, else TIMED (R163). -/
def Seat.protectMember (s : Seat) (a : Axis) : Option Member :=
  (Config.protectTarget a).map fun t =>
    if (s.axis a).referenced then Member.make a .target t.2 t.1 else Member.make a .timed 0 t.1

/-! ### PCU_STATE (R174) -/

/-- The snapshot group of PCU_STATE; its fields are 0 when absent (R202). -/
def snapshotFields (k : Option Snapshot) : List Byte :=
  match k with
  | none => [0, 0, 0, 0, 0]
  | some k => flagByte true ++ axesByte (k.entries.map (·.1)) ++ byte1 k.bolster ++ byte1 k.massage.code ++ byte1 k.program

def pcuStateItem (p : Pcu) (old : PcuState) (cause : PcuCause) : Item :=
  ⟨.event .pcuState, byte1 p.state.code ++ byte1 old.code ++ byte1 cause.code ++ snapshotFields p.snapshot ++
    flagByte p.protectMark ++ flagByte p.restoreMark⟩

def Work.tellPcu (w : Work) (old : PcuState) (cause : PcuCause) : Work := w.emit (pcuStateItem w.pcu old cause)

/-! ### Handing a change to the other blocks (R161) -/

/-- The allocator's part (R7, R18). -/
def Work.allocFollows (w : Work) (old new : PcuState) : Work :=
  if new == .protecting then w.allocate Allocating.enterProtecting
  else if old == .protecting || new == .postcrash then w.allocate Allocating.leaveProtecting
  else w.allocate (Allocating.recompute .budget)

/-- The motion controller's part: POSTCRASH ends every operation and a held sequence PREEMPTED (R171). That the operations
end in axis index order is log entry 55 (DESIGN CHOICE). -/
def Work.motionFollows (w : Work) (new : PcuState) : Work :=
  if new == .postcrash then (w.endOps (w.outsideAxes fun _ => true) .preempted).endSequence .preempted else w

/-- The sequencer's part; what RESTORING resumes waits for the snapshot (R133, R136). -/
def Work.massageFollows (w : Work) (new : PcuState) : Work :=
  match new with
  | .protecting => w.massageProtect
  | .normal => w.massageUnprotect
  | .restoring => w.massageUnprotectHeld
  | .postcrash => w.directOff .crash
  | .holding => w

/-- The unit's state changes and the change is handed to the blocks in turn (R161). -/
def Work.enterPcu (w : Work) (new : PcuState) : Work :=
  let old := w.pcu.state
  let w := w.modPcu fun p => { p with state := new }
  ((((w.allocFollows old new).motionFollows new).pneuFollows old new).heatFollows new).massageFollows new

/-- The hold timer stops and the hold-expired mark is cleared. -/
def Pcu.holdStopped (p : Pcu) : Pcu := { p with holdEnd := none, holdExpired := false }

/-! ### Transitions -/

/-- Enter PROTECTING: the members are judged first, then the change, then the sequence (R162, R163, R170). -/
def Work.enterProtecting (w : Work) : Work :=
  let old := w.pcu.state
  let members := w.neededAxes.filterMap w.protectMember
  let snap := if old == .normal then some w.takeSnapshot else w.pcu.snapshot
  let w := w.modPcu fun p => { p.holdStopped with snapshot := snap }
  let w := (w.enterPcu .protecting).modPcu fun p => { p with protectMark := true }
  (w.createSequence .protect 0 members).1.tellPcu old .alert

/-- Enter HOLDING (R166). -/
def Work.enterHolding (w : Work) (cause : PcuCause) : Work :=
  let w := w.enterPcu .holding
  (w.modPcu fun p => { p with holdEnd := some (w.now + Config.holdTime), holdExpired := false }).tellPcu .protecting cause

/-- Enter RESTORING (R169). -/
def Work.enterRestoring (w : Work) : Work :=
  let old := w.pcu.state
  let w := (w.modPcu Pcu.holdStopped).enterPcu .restoring
  let snap := w.pcu.snapshot
  let w := w.setLevels w.pneu.lumbarUpper w.pneu.lumbarLower ((snap.map (·.bolster)).getD w.pneu.bolster)
  let w := (w.massageRestore snap).modPcu fun p => { p with restoreMark := true }
  let members := ((snap.map (·.entries)).getD []).map fun e => Member.toTarget e.1 e.2
  (w.createSequence .restore 0 members).1.tellPcu old .holdEnd

/-- Enter NORMAL; the snapshot is discarded (R161). -/
def Work.enterNormal (w : Work) (cause : PcuCause) : Work :=
  let old := w.pcu.state
  ((w.modPcu fun p => { p.holdStopped with snapshot := none }).enterPcu .normal).tellPcu old cause

/-- Enter POSTCRASH (R171). Its PCU_STATE still shows the mark of a sequence that the change has ended (R174, log entry 51). -/
def Work.enterPostcrash (w : Work) : Work :=
  let old := w.pcu.state
  ((w.modPcu fun p => { p.holdStopped with snapshot := none }).enterPcu .postcrash).tellPcu old .crash

/-- A level is delivered; `noneCause` is the cause a NONE carries (R160, R161). -/
def Work.deliverLevel (w : Work) (level : PrecrashLevel) (noneCause : PcuCause) : Work :=
  match w.pcu.state, level with
  | .postcrash, _ => w
  | .normal, .crash | .protecting, .crash | .holding, .crash | .restoring, .crash => w.enterPostcrash
  | .normal, .alert | .holding, .alert | .restoring, .alert => w.enterProtecting
  | .protecting, .none => w.enterHolding noneCause
  | .protecting, .alert | .normal, .none | .holding, .none | .restoring, .none => w

/-- The hold timer expires (R166). -/
def Work.holdEnds (w : Work) : Work :=
  if w.pcu.protectMark then w.modPcu fun p => { p with holdEnd := none, holdExpired := true } else w.enterRestoring

/-- A PROTECT or RESTORE sequence has ended (R163, R169, R170, R171). It is a notice, taken after the blocks have acted on
what ended the sequence; for RESTART and CONFIGURE that order is log entry 60 (DESIGN CHOICE). -/
def Work.pcuSequenceDone (w : Work) (k : SeqKind) (code : Code) : Work :=
  match k with
  | .protect =>
    if code == .preempted && w.pcu.state == .protecting then w
    else
      let w := w.modPcu fun p => { p with protectMark := false }
      if w.pcu.state == .holding && w.pcu.holdExpired then w.enterRestoring else w
  | .restore =>
    let w := w.modPcu fun p => { p with restoreMark := false }
    if w.pcu.state == .restoring then w.enterNormal .restoreEnd else w
  | .recall | .easy | .home => w

/-- The profile store has taken a recall (R168). -/
def Work.pcuRecallTaken (w : Work) : Work :=
  if w.pcu.state == .holding || w.pcu.state == .restoring then w.enterNormal .recall else w

/-- The motion controller reports an axis press (R167). -/
def Work.pcuAxisPress (w : Work) (a : Axis) : Work :=
  if w.pcu.state == .holding || w.pcu.state == .restoring then w.dropSnapshotEntry a else w

/-- The answer of POSTCRASH_RELEASE (R173). -/
def Seat.releaseTest (s : Seat) : Result :=
  if s.pcu.state != .postcrash then .state
  else if s.peers.precrash.staleAt.isSome && s.peers.precrash.level == .crash then .state
  else .ok

/-- POSTCRASH_RELEASE (R173). -/
def Work.postcrashRelease (w : Work) : Work :=
  let r := w.releaseTest
  let w := w.answer 0x0A r none []
  if r == .ok then w.enterNormal .release else w

/-- Entering SLEEP (R175). -/
def Work.sleepPcu (w : Work) : Work :=
  w.modPcu fun p => { p.holdStopped with snapshot := none, protectMark := false, restoreMark := false }

end Sys2Proof.Machine
end

