-- ==== Sys2Proof/Machine/Profiles.lean ====
section
/-!
DEFINITION. The profile store (chapter 4): slots and writes, store and recall, keys, easy exit and entry, the mask, export
and import.
-/
namespace Sys2Proof.Machine

open Sys2Proof

def Work.modStore (w : Work) (f : Store → Store) : Work := { w with store := f w.store }

/-! ### PROFILE_EVENT (R83) -/

def profileEventItem (action : Action) (slot : Option (Fin 7)) (r : ProfileResult) (generation : Nat) : Item :=
  ⟨.event .profileEvent, byte1 action.code ++ optByte (slot.map slotCode) ++ byte1 r.code ++ word2 generation⟩

/-- A refusal or failure; it carries no generation. -/
def Work.tellProfile (w : Work) (action : Action) (slot : Option (Fin 7)) (r : ProfileResult) : Work :=
  w.emit (profileEventItem action slot r 0)

/-! ### Slots (R77, R79–R82) -/

def Work.clearMask (w : Work) : Work := w.modStore fun p => { p with mask := false }

/-- The generation after one more write (R80). -/
def nextGeneration (g : Nat) : Nat := (g + 1) % 65536

/-- A write of a slot starts: WRITING, the counter advanced; `bytes` are the 28 bytes to be stored, empty for an erase
(R80, R81). -/
def Work.startWrite (w : Work) (i : Fin 7) (action : Action) (bytes : List Byte) : Work :=
  let w := w.setSlot i ⟨.writing, [], nextGeneration (w.slot i).generation⟩
  w.modStore fun p => { p with write := some ⟨i, action, bytes, w.now + Config.writeTime⟩ }

/-- The result of a completed write (R83). -/
def Action.doneResult : Action → ProfileResult
  | .importing => .importDone
  | .store | .keyStore | .recall | .keyRecall | .easyExit | .easyEntry | .erase => .done

/-- A write ends (R79, R81, R83). -/
def Work.writeEnds (w : Work) (x : Write) : Work :=
  let g := (w.slot x.slot).generation
  let w := w.setSlot x.slot ⟨if x.action == .erase then .empty else .valid, x.bytes, g⟩
  let w := (w.modStore fun p => { p with write := none }).clearLive .profileCorrupt (slotCode x.slot)
  w.emit (profileEventItem x.action (some x.slot) x.action.doneResult g)

/-- A slot is found CORRUPT (R79). -/
def Work.slotCorrupt (w : Work) (i : Fin 7) : Work :=
  (w.setSlot i { w.slot i with state := .corrupt }).raiseLive .profileCorrupt (slotCode i)

/-- A VALID slot is read: its record if the read passes; otherwise it becomes CORRUPT (R79). -/
def Work.readSlot (w : Work) (i : Fin 7) : Work × Option Profile :=
  if readPasses (slotCode i) (w.slot i).bytes then (w, some (Profile.ofBytes (w.slot i).bytes)) else (w.slotCorrupt i, none)

/-- The power-up scan of one slot: an interrupted write is CORRUPT, a record is checked (R77, R82). -/
def Work.scanSlot (w : Work) (i : Fin 7) : Work :=
  match (w.slot i).state with
  | .empty => w
  | .valid => (w.readSlot i).1
  | .corrupt | .writing => w.slotCorrupt i

/-- The power-up scan, in code order (R77). -/
def Work.scanSlots (w : Work) : Work := (List.finRange 7).foldl (fun w i => w.scanSlot i) w

/-! ### Records of the seat (R87, R91) -/

/-- The axes a record keeps: present and referenced (R87). -/
def Seat.storedAxes (s : Seat) : List Axis := Axis.all.filter fun a => s.present a && (s.axis a).referenced

/-- The heat preference (R87). -/
def Heat.preference (h : Heat) : Option (Nat × Nat) :=
  if 1 ≤ h.cushion.level || 1 ≤ h.back.level then some (h.cushion.level, h.back.level) else none

/-- The record of the seat as it stands, with the preferences given (R87). -/
def Seat.buildRecord (s : Seat) (i : Fin 7) (source : Nat) (massage heat : Option (Nat × Nat)) : Profile where
  version := 1
  slot := slotCode i
  source := source
  generation := nextGeneration (s.slot i).generation
  presence := mapByte (s.storedAxes.map (·.index.val)) 0
  positions := Axis.all.map fun a => if s.storedAxes.contains a then (s.axis a).position.toNat else 0
  lumbarUpper := s.pneu.lumbarUpper
  lumbarLower := s.pneu.lumbarLower
  bolster := s.pneu.bolster
  massage := massage
  heat := heat

/-- The comfort copy as the seat stands (R91). -/
def Seat.comfortNow (s : Seat) : ComfortCopy := ⟨s.massage.preference, s.heat.preference⟩

/-! ### Button and key store (R86, R91) -/

/-- The tests of R86. -/
def Seat.storeRefusal (s : Seat) : Option ProfileResult :=
  if s.pcu.state != .normal then some .state
  else if Axis.all.any (fun a => (s.axis a).op.isSome || !(s.axis a).resting) then some .moving
  else if s.store.write.isSome then some .storeBusy
  else none

/-- An M edge in the open store window (R86). -/
def Work.buttonStore (w : Work) (i : Fin 7) : Work :=
  match w.storeRefusal with
  | some r => w.tellProfile .store (some i) r
  | none =>
    let record := w.buildRecord i 0 w.massage.preference w.heat.preference
    (w.modStore fun p => { p with storeWindow := none }).startWrite i .store record.withCheck

/-- The slot of a key (4.1). -/
def keySlot (k : Fin 4) : Fin 7 := ⟨k.val + 3, by omega⟩

/-- The tests of a key store (4.6). -/
def Seat.keyStoreRefusal (s : Seat) : Option ProfileResult :=
  if s.ignition != .off then some .state
  else if s.pcu.state != .normal then some .state
  else if !s.motionQuiet then some .moving
  else if s.store.write.isSome then some .storeBusy
  else none

/-- A KEY_EVENT LOCK: the window closes, then the key store (4.6). -/
def Work.keyLock (w : Work) (k : Fin 4) : Work :=
  let i := keySlot k
  let w := w.modStore fun p => { p with keyWindow := none }
  match w.keyStoreRefusal with
  | some r => w.tellProfile .keyStore (some i) r
  | none =>
    let copy := w.store.comfortCopy
    w.startWrite i .keyStore (w.buildRecord i 1 (copy.bind (·.massage)) (copy.bind (·.heat))).withCheck

/-- A KEY_EVENT UNLOCK opens the key-recall window (R92). -/
def Work.keyUnlock (w : Work) (k : Fin 4) : Work :=
  w.modStore fun p => { p with keyWindow := some ⟨k, w.now + Config.keyWindowTime⟩ }

/-! ### Recall (R88–R90) -/

/-- The result that reports a refused sequence (R90, R93, R94). -/
def refusalResult (c : Code) : ProfileResult := if c == .refusedBusy then .slotBusy else .state

/-- The members of a recall (R90). -/
def recallMembers (p : Profile) : List Member := (presentAxes p.presence).map fun a => Member.toTarget a (p.position a)

/-- Steps 3 to 5 of a taken recall (R90). -/
def Work.recallSettings (w : Work) (p : Profile) : Work :=
  let w := w.modStore fun s => { s with returnPoint := none, keyWindow := none }
  let w := w.setLevels p.lumbarUpper p.lumbarLower p.bolster
  let w := match p.heat with
    | some (c, b) => w.heatRecall c b
    | none => w
  match p.massage with
  | some (program, intensity) => w.massageRecall program intensity
  | none => w

/-- A recall that is taken (R90). A session that PROTECT alone paused resumes as the pre-crash unit enters NORMAL, before the
recalled preference reaches it (R133, R140, R168, log entry 47). -/
def Work.recallTaken (w : Work) (action : Action) (i : Fin 7) (p : Profile) : Work :=
  let (w, refusal) := w.pcuRecallTaken.createSequence .recall (slotCode i) (recallMembers p)
  match refusal with
  | some c => w.tellProfile action (some i) (refusalResult c)
  | none => w.recallSettings p

/-- A recall request (R89). -/
def Work.recallRequest (w : Work) (action : Action) (i : Fin 7) : Work :=
  if w.pcu.state == .protecting || w.pcu.state == .postcrash then w.tellProfile action (some i) .state
  else if !w.speedGate then w.tellProfile action (some i) .speed
  else match (w.slot i).state with
    | .writing => w.tellProfile action (some i) .slotBusy
    | .empty => w.tellProfile action (some i) .empty
    | .corrupt => w.tellProfile action (some i) .corrupt
    | .valid =>
      match w.readSlot i with
      | (w, none) => w.tellProfile action (some i) .corrupt
      | (w, some p) => w.recallTaken action i p

/-- An M edge with the store window closed (R88). -/
def Work.buttonRecall (w : Work) (i : Fin 7) : Work :=
  if w.motion.sequence.any (fun q => q.kind == .recall && q.tag == slotCode i) then w.endSequence .abortedButton
  else w.recallRequest .recall i

/-! ### Memory keys (R84, R85) -/

/-- A SET edge (R85). -/
def Work.setEdge (w : Work) : Work :=
  let w := w.clearMask
  w.modStore fun p => { p with
    storeWindow := if p.storeWindow.isSome then none else some (w.now + Config.storeWindowTime) }

/-- A taken M edge (R84, R86, R88). -/
def Work.memoryEdge (w : Work) (i : Fin 7) : Work :=
  let w := w.clearMask
  if w.store.storeWindow.isSome then w.buttonStore i else w.buttonRecall i

/-- The M edge that is taken: exactly one M button is pressed in the frame, and it was released before (R84). -/
def takenEdge (old new : Buttons) : Option (Fin 7) :=
  match new.m1, new.m2, new.m3 with
  | true, false, false => if old.m1 then none else some 0
  | false, true, false => if old.m2 then none else some 1
  | false, false, true => if old.m3 then none else some 2
  | _, _, _ => none

/-- An accepted MEMORY_KEYS frame of the own side: SET first (R84). -/
def Work.buttonsTaken (w : Work) (new : Buttons) : Work :=
  let old := w.store.buttons
  let w := w.modStore fun p => { p with buttons := new }
  let w := if new.set && !old.set then w.setEdge else w
  match takenEdge old new with
  | some i => w.memoryEdge i
  | none => w

/-! ### Vehicle state (R91–R95) -/

/-- A RECALL or EASY sequence is ended when the speed gate fails (R91). -/
def Work.speedGateAbort (w : Work) : Work :=
  if w.speedGate then w else w.endSequenceOf (fun k => k == .recall || k == .easy) .abortedSpeed

/-- Ignition from ACC or RUN to OFF: the comfort copy, and easy exit is armed (R91, R93). -/
def Work.storeIgnitionOff (w : Work) : Work :=
  w.modStore fun p => { p with comfortCopy := some w.comfortNow, armed := true }

/-- The return point is moved back to, or the entry refused (R94). -/
def Work.easyEntry (w : Work) (t : Int) : Work :=
  let w := w.modStore fun p => { p with returnPoint := none }
  if w.store.mask then w.tellProfile .easyEntry none .masked
  else if !w.speedGate then w.tellProfile .easyEntry none .speed
  else match w.createSequence .easy 0 [Member.toTarget .long t] with
    | (w, some _) => w.tellProfile .easyEntry none .state
    | (w, none) => w

/-- Ignition from OFF to ACC or RUN: disarmed, and easy entry with a return point (R93, R94). -/
def Work.storeIgnitionOn (w : Work) : Work :=
  let w := w.modStore fun p => { p with armed := false }
  match w.store.returnPoint with
  | none => w
  | some t => w.easyEntry t

/-- The tests of an easy exit (R93). -/
def Seat.exitRefusal (s : Seat) : Option ProfileResult :=
  if s.power.mode != .runOn then some .state
  else if s.store.mask then some .masked
  else if !s.present .long || !(s.axis .long).referenced then some .state
  else if !(s.peers.vehicle.staleAt.isSome && s.peers.vehicle.fields.speed == some 0) then some .speed
  else none

/-- An easy exit is refused: the return point is discarded (R93, R95). -/
def Work.refuseExit (w : Work) (r : ProfileResult) : Work :=
  (w.modStore fun s => { s with returnPoint := none }).tellProfile .easyExit none r

/-- A driver's door opening while easy exit is armed (R93); a refused exit discards the return point (R95). -/
def Work.easyExit (w : Work) : Work :=
  match w.exitRefusal with
  | some r => w.refuseExit r
  | none =>
    let p := (w.axis .long).position
    let w := w.modStore fun s => { s with returnPoint := some p }
    match w.createSequence .easy 0 [Member.toTarget .long (max 8 (p - 300))] with
    | (w, none) => w
    | (w, some _) => w.refuseExit .state

/-- The opening edge of the driver's door: the key-recall window first, then easy exit (R92, R93). -/
def Work.driverDoorOpens (w : Work) : Work :=
  let armed := w.store.armed
  match w.store.keyWindow with
  | some k =>
    let w := w.modStore fun p => { p with keyWindow := none, armed := false }
    if w.store.mask then w.tellProfile .keyRecall (some (keySlot k.key)) .masked
    else w.recallRequest .keyRecall (keySlot k.key)
  | none =>
    let w := w.modStore fun p => { p with armed := false }
    if armed then w.easyExit else w

/-- The driver's door in a set of vehicle fields (R92, R197). -/
def doorOf (s : Side) (f : VehicleFields) : Bool :=
  match s with
  | .left => f.leftOpen
  | .right => f.rightOpen

/-- The profile store takes the values that follow `old` in the peer view: ignition, door, speed gate (log entry 19). -/
def Work.storeVehicle (w : Work) (old : VehicleFields) : Work :=
  let new := w.peers.vehicle.fields
  let w :=
    if old.ignition != .off && new.ignition == .off then w.storeIgnitionOff
    else if old.ignition == .off && new.ignition != .off then w.storeIgnitionOn
    else w
  let w := if !doorOf w.power.side old && doorOf w.power.side new then w.driverDoorOpens else w
  w.speedGateAbort

/-- The motion controller reports an axis press (R95, R96). -/
def Work.storeAxisPress (w : Work) (a : Axis) : Work :=
  let w := w.clearMask
  if a == .long then w.modStore fun p => { p with returnPoint := none } else w

/-! ### Export, import and erase (R97–R100) -/

/-- PROFILE_EXPORT of a slot (R97). A read that fails latches its fault before the answer joins the queue (log entry 37). -/
def Work.profileExport (w : Work) (i : Fin 7) : Work :=
  let refuse := fun (w : Work) (r : Result) (p : ProfileResult) => w.answer 0x06 r (some p.code) []
  if w.store.exporting.isSome then w.answer 0x06 .busy none []
  else match (w.slot i).state with
    | .writing => refuse w .busy .slotBusy
    | .empty => refuse w .state .empty
    | .corrupt => refuse w .state .corrupt
    | .valid =>
      match w.readSlot i with
      | (w, none) => refuse w .state .corrupt
      | (w, some _) =>
        (w.answer 0x06 .ok none []).modStore fun p => { p with exporting := some ⟨(w.slot i).bytes, 0⟩ }

/-- PROFILE_IMPORT of a slot (R98). -/
def Work.profileImport (w : Work) (i : Fin 7) : Work :=
  let w := w.answer 0x07 .ok none []
  let w := match w.store.assembly with
    | some a => w.tellProfile .importing (some a.slot) .importAbandoned
    | none => w
  w.modStore fun p => { p with assembly := some ⟨i, 0, [], w.now + Config.importTime⟩ }

/-- The assembly closes with a failure (R98, R99). -/
def Work.importFails (w : Work) (i : Fin 7) (r : ProfileResult) : Work :=
  (w.modStore fun p => { p with assembly := none }).tellProfile .importing (some i) r

/-- The bytes of a written import: its own slot, source and generation, bit 7 of the presence set cleared, and the check
computed anew (R99, R201). The position bytes of an axis outside the presence set, and the intensity byte of an absent
massage preference, stay as received (log entry 44). -/
def importBytes (i : Fin 7) (generation : Nat) (bytes : List Byte) : List Byte :=
  let b := [1, BitVec.ofNat 8 (slotCode i), 2] ++ twoBytes generation ++ [bytes.getD 5 0 &&& 0x7F] ++
    (bytes.drop 6).take 20
  b ++ twoBytes (crc16 b)

/-- A completed assembly is tested (R99). -/
def Work.importTest (w : Work) (i : Fin 7) (bytes : List Byte) : Work :=
  if crc16 (bytes.take 26) != storedCheck bytes then w.importFails i .importCrc
  else if !(Profile.ofBytes bytes).inRange then w.importFails i .importFormat
  else if w.store.write.isSome then w.importFails i .importBusy
  else
    let g := nextGeneration (w.slot i).generation
    (w.modStore fun p => { p with assembly := none }).startWrite i .importing (importBytes i g bytes)

/-- A PROFILE_DATA frame of good length (R98). -/
def Work.profileFrame (w : Work) (index : Nat) (bytes : List Byte) : Work :=
  match w.store.assembly with
  | none => w
  | some a =>
    if index != a.next then w.importFails a.slot .importSequence
    else if a.next = 3 then w.importTest a.slot (a.bytes ++ bytes)
    else w.modStore fun p => { p with
      assembly := some { a with next := a.next + 1, bytes := a.bytes ++ bytes, closesAt := w.now + Config.importTime } }

/-- PROFILE_ERASE of a slot (R100). -/
def Work.profileErase (w : Work) (i : Fin 7) : Work :=
  if w.store.write.isSome then w.answer 0x08 .busy (some ProfileResult.storeBusy.code) []
  else (w.answer 0x08 .ok none []).startWrite i .erase []

/-! ### RESTART and SLEEP (R101) -/

/-- Windows, arming, assembly and export are dropped. -/
def Store.windowsClosed (s : Store) : Store :=
  { s with storeWindow := none, keyWindow := none, armed := false, assembly := none, exporting := none }

/-- RESTART (R95, R101). -/
def Work.restartStore (w : Work) : Work := w.modStore fun s => { s.windowsClosed with returnPoint := none }

/-- Entering SLEEP (R101). -/
def Work.sleepStore (w : Work) : Work := w.modStore fun s => { s.windowsClosed with buttons := Buttons.released }

end Sys2Proof.Machine
end

