-- ==== Sys2Proof/Machine/Link.lean ====
section
/-!
DEFINITION. The transmitter (9.4–9.6, 11.2, 11.3): the event queue, the status frame, the transmit arbiter and the outcomes
of a frame.
-/
namespace Sys2Proof.Machine

open Sys2Proof

/-! ### The event queue (R182) -/

/-- An item joins the tail, or is discarded with events_lost set (R182). -/
def Link.push (l : Link) (i : Item) : Link :=
  if l.queue.length < Config.eventQueueMax then { l with queue := l.queue ++ [i] }
  else { l with lost := true, lostSinceLoad := true }

/-- Items join in the order in which they were handed on. -/
def Link.pushAll (l : Link) (items : List Item) : Link := items.foldl Link.push l

/-! ### SEAT_STATUS (R184, 11.3) -/

def Mode.bit : Mode → Nat
  | .active => 0 | .runOn | .sleep => 1

def boolBit (b : Bool) (i : Nat) : Nat := if b then 2 ^ i else 0

/-- The band code of the status; a powered part has a band. -/
def Seat.bandCode (s : Seat) : Nat := (s.band.map Band.code).getD 0

/-- The eight bytes of SEAT_STATUS (11.3). -/
def Seat.statusBytes (s : Seat) (lost : Bool) : List Byte :=
  word2 s.alloc.total ++
  byte1 (s.alloc.queue.length * 16 + s.bandCode * 4 + s.power.mode.bit) ++
  byte1 (s.pcu.state.code * 32 + boolBit s.power.window.isSome 4 + boolBit s.store.storeWindow.isSome 3 +
    boolBit (!s.faults.latched.isEmpty) 2 + boolBit lost 1) ++
  byte1 (s.massage.state.code * 64 + s.massage.program % 8 * 8) ++
  byte1 (s.massage.queue.length * 16 + s.heat.cushion.level % 4 * 4 + s.heat.back.level % 4) ++
  byte1 (s.effectiveDuty .cushion) ++ byte1 (s.effectiveDuty .back)

/-! ### The transmit arbiter (R180) -/

/-- B = 640h + 8 × NODE (9.1). -/
def baseIdent (node : Station) : Nat := 0x640 + 8 * node.val

/-- The frame of the head of the event queue: its pending segment (R180, R202). -/
def headFrame (base : Nat) (l : Link) : Option Loaded :=
  l.queue.head?.map fun i => ⟨.queue, base + (if i.isAnswer then 1 else 3), i.segment l.sent, false⟩

/-- The due status with its content taken now (R183). -/
def statusFrame (base : Nat) (s : Seat) (l : Link) : Option Loaded :=
  if l.statusDue then some ⟨.status, base + 2, s.statusBytes l.lost, l.lost⟩ else none

/-- The next frame of an export (R97). -/
def exportFrame (base : Nat) (s : Seat) : Option Loaded :=
  s.store.exporting.map fun e => ⟨.exporting, base + 4, pad8 (byte1 e.next ++ (e.bytes.drop (7 * e.next)).take 7), false⟩

/-- Of two pending frames the one of lower identifier goes first (R180). -/
def lowerIdent (a b : Option Loaded) : Option Loaded :=
  match a, b with
  | some x, some y => if y.ident < x.ident then some y else some x
  | some x, none => some x
  | none, b => b

/-- The pending frame of lowest identifier (R180). -/
def pendingFrame (s : Seat) (l : Link) : Option Loaded :=
  let base := baseIdent s.power.node
  lowerIdent (lowerIdent (headFrame base l) (statusFrame base s l)) (exportFrame base s)

/-- The arbiter may load: powered, awake, the link on and no frame loaded (R180, R181, R183). That it loads nothing in
SLEEP is log entry 58 (DESIGN CHOICE). -/
def mayLoad (s : Seat) (l : Link) : Bool :=
  s.band.isSome && s.power.mode != .sleep && l.offUntil.isNone && l.loaded.isNone

/-- The arbiter loads where it may and a frame is pending (R180). -/
def Link.load (s : Seat) (l : Link) : Link :=
  if mayLoad s l then
    match pendingFrame s l with
    | none => l
    | some f => { l with loaded := some f, lostSinceLoad := false }
  else l

/-! ### Outcomes (R180–R182, R202) -/

/-- The head of the queue has sent one more segment; with its last the item leaves (R202). -/
def Link.advanceHead (l : Link) : Link :=
  match l.queue with
  | [] => l
  | i :: rest => if l.sent + 1 < i.segments then { l with sent := l.sent + 1 } else { l with queue := rest, sent := 0 }

/-- The loaded frame was sent (R180, R182). -/
def Link.sentOk (l : Link) (f : Loaded) : Link :=
  let l := { l with loaded := none, tally := l.tally - 1 }
  match f.source with
  | .queue => l.advanceHead
  | .status => { l with statusDue := false, lost := if f.lostShown && !l.lostSinceLoad then false else l.lost }
  | .exporting | .orphan => l

/-- The export advances, and ends with frame 3 (R97, R180). -/
def Work.exportSent (w : Work) (f : Loaded) : Work :=
  if f.source == .exporting then
    w.modStore fun p => { p with
      exporting := p.exporting.bind fun e => if e.next < 3 then some { e with next := e.next + 1 } else none }
  else w

/-- The loaded frame lost arbitration: it stays pending (R180). -/
def Link.sentLost (l : Link) : Link := { l with loaded := none }

/-- A failure: the tally rises by 8, and at 256 the link goes off (R181). -/
def Link.sentFailed (l : Link) (now : Time) : Link :=
  { l with loaded := none, tally := l.tally + 8
           offUntil := if Config.linkOffTally ≤ l.tally + 8 then some (now + Config.linkOffTime) else l.offUntil }

/-- The LINK_OFF timer expires (R181). -/
def Link.turnOn (l : Link) : Link := { l with tally := 0, offUntil := none }

/-- The status timer reaches a period (R183). -/
def Link.statusTick (l : Link) (now : Time) : Link :=
  { l with statusDue := true, statusAt := some (now + Config.statusPeriod) }

/-- Entering SLEEP (R182, R183, R190). A LINK_OFF timer runs on (R181, log entry 53). -/
def Link.sleep (l : Link) : Link :=
  { l with queue := [], sent := 0, lost := l.lost || !l.queue.isEmpty, lostSinceLoad := false, loaded := none
           statusDue := false, statusAt := none }

/-- Waking (R182, R183, R190). -/
def Link.wake (l : Link) (now : Time) : Link :=
  { l with queue := [], sent := 0, lostSinceLoad := false, tally := 0, offUntil := none, loaded := none, statusDue := true
           statusAt := some (now + Config.statusPeriod) }

/-- RESTART discards an export; a frame of it already loaded is still sent (R101, R190, log entry 24). -/
def Link.restart (l : Link) : Link :=
  { l with loaded := l.loaded.map fun f => if f.source == .exporting then { f with source := .orphan } else f }

end Sys2Proof.Machine
end

