-- ==== Sys2Proof/Machine/Power.lean ====
section
/-!
DEFINITION. How one step is carried through: the notices between the blocks, the end of a step, entering and leaving SLEEP,
and the supply bands (chapters 1, 9 and 10).
-/
namespace Sys2Proof.Machine

open Sys2Proof

/-! ### Notices (log entry 7) -/

/-- The block concerned takes one notice. -/
def Work.handle (w : Work) (n : Notice) : Work :=
  match n with
  | .budget (.granted (.axis a)) => w.tryStart a
  | .budget (.granted .pump) => w.tryPump
  | .budget (.revoked (.axis a) c) => w.axisRevoked a c
  | .budget (.revoked .pump _) => w.suspendFill
  | .sequence => w.advanceSequence
  | .sequenceDone k c => w.pcuSequenceDone k c
  | .supportEnd c e => w.adjOpEnded c e
  | .supportReading c p => w.adjReading c p
  | .supportVent c => w.adjVentOver c
  | .massageEnd e => w.massageFillEnded e
  | .massageSuspended => w.massageFillSuspended
  | .massageResumed => w.massageFillResumed
  | .manifold => w.lookManifold

/-- Notices are taken in the order they were posted, at most `n` of them. -/
def Work.drain : Nat → Work → Work
  | 0, w => w
  | n + 1, w =>
    match w.inbox with
    | [] => w
    | x :: rest => Work.drain n (Work.handle { w with inbox := rest } x)

/-! ### SLEEP and waking (R195, R196) -/

/-- The sleep conditions of R195. -/
def Seat.maySleep (s : Seat) : Bool :=
  s.motionQuiet && s.store.write.isNone && (s.pcu.state == .normal || s.pcu.state == .postcrash)

/-- The peer view marked STALE (R178); PRECRASH forgets its last counter (R159). -/
def Peers.asleep (p : Peers) : Peers where
  energy := { p.energy with staleAt := none }
  stations := p.stations.map fun r => { r with staleAt := none }
  vehicle := VehicleRec.stale
  memoryKeysUntil := none
  comfort := { p.comfort with staleAt := none }
  precrash := ⟨.none, none, none⟩

/-- The PEER_STALE live conditions are removed (R179, R186). -/
def FaultTable.peersFresh (t : FaultTable) : FaultTable := { t with live := t.live.filter (·.kind != .peerStale) }

/-- An axis record around SLEEP (R27). -/
def AxisRec.asleep (r : AxisRec) : AxisRec := { r with driveEdges := 0, opEdges := 0, braked := false, pendingFault := false }

/-- An axis record on waking: the interval list is emptied and the first edge is not judged (R27, R43). -/
def AxisRec.awake (r : AxisRec) : AxisRec := { r with intervals := [], lastEdge := none }

/-- Every axis record changed alike. -/
def Work.mapAxes (w : Work) (f : AxisRec → AxisRec) : Work :=
  { w with motion := { w.motion with axes := w.motion.axes.map f } }

/-- Every block takes its SLEEP values (R195). -/
def Work.sleep (w : Work) : Work :=
  let w : Work := { w with peers := w.peers.asleep, faults := w.faults.peersFresh }
  let w := (w.stopMassage.sleepPneu.sleepHeat.sleepStore.sleepPcu).mapAxes AxisRec.asleep
  { w with
    alloc := w.alloc.clear
    power := { w.power with mode := .sleep, runOn := none, sleepPending := false, window := none }
    inbox := [] }

/-- Every block takes its waking values and the part enters RUN_ON (R196). -/
def Work.wake (w : Work) : Work :=
  let w := (w.wakePneu.wakeHeat.mapAxes AxisRec.awake).clearLive .linkOff 0
  { w with power := { w.power with mode := .runOn, runOn := some (w.now + w.power.config.runOnTime) } }

/-- A part in SLEEP wakes; any other is left as it is (R196). -/
def State.wake (s : State) : State :=
  if s.seat.power.mode == .sleep then
    { s with seat := (Work.wake (Work.start s.seat)).toSeat, link := s.link.wake s.seat.now }
  else s

/-! ### The end of a step -/

/-- Items go to the event queue; a pending SLEEP is entered when its conditions hold; otherwise the arbiter loads
(R180, R182, R195). It loads once, at the end of a step, so that the status due on waking or on leaving supply reset is
loaded after the waking frame or the start has been handled (R183, log entry 52). -/
def settleLink (w : Work) (l : Link) : Seat × Link :=
  let l := l.pushAll w.out
  if w.power.sleepPending && w.maySleep then (w.sleep.toSeat, l.sleep) else (w.toSeat, l.load w.toSeat)

/-- Every step ends so: the notices are taken, the applied heater duties follow, and the link takes what it is handed. -/
def finish (w : Work) (l : Link) (pending : List Instr) : State :=
  let r := settleLink (w.drain Config.noticeBudget).trimApplied l
  ⟨r.1, r.2, pending⟩

/-- A powered part takes an event that changes the transmitter by `g` and the blocks by `f`; in supply reset nothing runs
(R197, log entry 5). -/
def State.actLink (g : Link → Link) (f : Work → Work) (s : State) : State :=
  if s.seat.band.isNone then s else finish (f (Work.start s.seat)) (g s.link) s.pending

/-- A powered part takes an event. -/
def State.act (f : Work → Work) (s : State) : State := s.actLink id f

/-- A powered part takes a frame, waking first (R176, R196). -/
def State.receive (f : Work → Work) (s : State) : State := if s.seat.band.isNone then s else s.wake.act f

/-! ### Supply bands (R1–R3) -/

/-- The first band, without hysteresis; none below 6.0 V (R2). -/
def firstBand (mv : Nat) : Option Band :=
  if mv < 6000 then none
  else if mv < 9000 then some .critical
  else if mv < 10500 then some .low
  else if mv ≤ 16000 then some .normal
  else some .high

/-- The table of R1 above 6.0 V: the new band. -/
def nextBand (b : Band) (mv : Nat) : Band :=
  match b with
  | .normal => if 16000 < mv then .high else if mv < 9000 then .critical else if mv < 10500 then .low else .normal
  | .high => if mv < 9000 then .critical else if mv < 10500 then .low else if mv ≤ 15500 then .normal else .high
  | .low => if mv < 9000 then .critical else if 16000 < mv then .high else if 10800 ≤ mv then .normal else .low
  | .critical => if 16000 < mv then .high else if 10800 ≤ mv then .normal else if 9300 ≤ mv then .low else .critical

def Band.isLow : Band → Bool
  | .low | .critical => true
  | .high | .normal => false

/-- The live conditions of SUPPLY_LOW and SUPPLY_HIGH follow the band (R3). -/
def Work.supplyFaults (w : Work) (b : Band) : Work :=
  let w := if b.isLow then w.raiseLive .supplyLow 0 else w.clearLive .supplyLow 0
  if b == .high then w.raiseLive .supplyHigh 0 else w.clearLive .supplyHigh 0

/-- A band change reaches the fault table, the allocator and the heater controller (R1, R3, R7, R148). That the fault
table comes first, so that the FAULT event goes before the ends of revoked operations, is log entry 54 (DESIGN CHOICE). -/
def Work.bandChanged (w : Work) (b : Band) : Work :=
  let w := Work.supplyFaults { w with band := some b } b
  (w.allocate Allocating.bandChange).refreshHeat

/-- The voltage moves within the powered range (R1). -/
def Work.voltage (w : Work) (mv : Nat) : Work :=
  match w.band with
  | none => w
  | some b => if nextBand b mv == b then w else w.bandChanged (nextBand b mv)

/-! ### Supply reset (R82, R197) -/

/-- A slot as the nonvolatile area keeps it through a supply reset: an interrupted write leaves no record (R82). -/
def Slot.powerLost (s : Slot) : Slot := if s.state == .writing then ⟨.corrupt, [], s.generation⟩ else s

/-- The pneumatic controller in supply reset: its supply-reset values with every valve closed (R122, R197). -/
def Pneu.unpowered (now : Time) (sensor : Nat) : Pneu :=
  { Pneu.reset now sensor with cells := Vector.replicate 14 (Cell.unpowered now) }

/-- The supply falls below 6.0 V: supply reset, with every output off. The nonvolatile slots, the pins and the clock are all
that is left (R1, R82, R197, log entry 5). -/
def Seat.powerDown (s : Seat) : Seat :=
  { Seat.atReset s.now s.power.node s.power.side .normal (s.store.slots.map Slot.powerLost)
      (s.switches.records.map (·.contact)) s.pneu.sensor with
    band := none
    pneu := Pneu.unpowered s.now s.pneu.sensor }

def State.powerDown (s : State) : State := ⟨s.seat.powerDown, Link.reset s.seat.now, s.pending⟩

/-- The part starts: straps, first band, slot scan, configuration, RUN_ON (R197). -/
def State.powerUp (s : State) (node : Station) (side : Side) (b : Band) : State :=
  let seat := Seat.atReset s.seat.now node side b s.seat.store.slots (s.seat.switches.records.map (·.contact))
    s.seat.pneu.sensor
  finish ((Work.start seat).supplyFaults b).scanSlots (Link.reset s.seat.now) s.pending

end Sys2Proof.Machine
end

