-- ==== Sys2Proof/Machine/Switches.lean ====
section
/-!
DEFINITION. The switch scanner (10.1): contacts, debounce, conflicts, repeats, stuck positions, and what a press delivers.
-/
namespace Sys2Proof.Machine

open Sys2Proof

/-! ### Positions (10.1) -/

/-- Where a position is delivered. -/
inductive SwitchUse
  | axis (a : Axis) (d : Dir) | support (k : SupportSwitch)
deriving DecidableEq, Repr

/-- The table of 10.1. -/
def switchUse (p : SwitchPos) : SwitchUse :=
  match Axis.ofNat? (p.val / 2) with
  | some a => .axis a (if p.val % 2 = 0 then .low else .high)
  | none => .support (match p.val with
    | 14 => .lumbarFore | 15 => .lumbarAft | 16 => .lumbarUp | 17 => .lumbarDown | 18 => .bolsterPlus | _ => .bolsterMinus)

/-- The other position of an axis pair. -/
def partner (p : SwitchPos) : SwitchPos :=
  ⟨if p.val % 2 = 0 then p.val + 1 else p.val - 1, by have := p.isLt; split <;> omega⟩

def Seat.conflict (s : Seat) (a : Axis) : Bool := s.switches.conflicts.get a.index

def Work.setConflict (w : Work) (a : Axis) (b : Bool) : Work :=
  { w with switches := { w.switches with conflicts := w.switches.conflicts.set a.index.val b a.index.isLt } }

/-! ### What a press delivers (R57, R95, R96, R115, R167) -/

/-- An axis press reaches the motion controller, which reports a served one to the profile store and the pre-crash unit
(R57). -/
def Work.axisPress (w : Work) (a : Axis) (d : Dir) : Work :=
  if w.protecting then w else ((w.servePress a d).storeAxisPress a).pcuAxisPress a

/-- A support press or repeat reaches the pneumatic controller, which reports a served one to the profile store (R115). -/
def Work.supportSwitch (w : Work) (k : SupportSwitch) : Work :=
  if k.served w.pcu.state then (w.supportPress k).clearMask else w

/-! ### Contacts and debounce (R191) -/

/-- The contact pin of a record changes: the debounce timer starts, or stops where the contact has returned (R191). -/
def SwitchRec.contactTo (r : SwitchRec) (closed : Bool) (now : Time) : SwitchRec :=
  if closed == r.contact then r
  else if closed == r.pressed then
    { r with contact := closed, debounceAt := none, atReset := false, stuckAt := if r.atReset then none else r.stuckAt }
  else { r with contact := closed, debounceAt := some (now + Config.debounceTime) }

/-- The debounced state becomes PRESSED; the hold timer starts, or runs on from the reset (R191, R193). -/
def SwitchRec.press (r : SwitchRec) (now : Time) : SwitchRec :=
  { r with pressed := true, debounceAt := none, atReset := false, cond := if r.atReset then .heldAtReset else r.cond
           stuckAt := if r.atReset then r.stuckAt else some (now + Config.stuckTime) }

/-- The debounced state becomes RELEASED; the condition returns to NORMAL (R191, R193). -/
def SwitchRec.release (r : SwitchRec) : SwitchRec :=
  { r with pressed := false, debounceAt := none, cond := .normal, delivered := false, stuckAt := none, repeatAt := none }

/-- A press of an axis position is delivered, or withheld by a conflict (R192). -/
def Work.deliverAxisPress (w : Work) (p : SwitchPos) (a : Axis) (d : Dir) : Work :=
  let q := w.switch (partner p)
  if w.conflict a then w
  else if q.pressed && q.cond != .heldAtReset then
    let w := (w.setSwitch (partner p) { q with delivered := false }).setConflict a true
    if q.delivered then w.axisRelease a d.opposite else w
  else ((w.setSwitch p { w.switch p with delivered := true }).restartRunOn).axisPress a d

/-- A position becomes PRESSED (R191–R193). -/
def Work.switchPressed (w : Work) (p : SwitchPos) : Work :=
  let w := w.setSwitch p ((w.switch p).press w.now)
  if (w.switch p).cond != .normal then w
  else match switchUse p with
    | .axis a d => w.deliverAxisPress p a d
    | .support k =>
      ((w.setSwitch p { w.switch p with repeatAt := some (w.now + Config.firstRepeat) }).restartRunOn).supportSwitch k

/-- A position becomes RELEASED: a delivered press is ended by a release, a conflict by both positions released, and the
live condition of SWITCH_STUCK is removed (R191–R193). -/
def Work.switchReleased (w : Work) (p : SwitchPos) : Work :=
  let r := w.switch p
  let w := (w.setSwitch p r.release).clearLive .switchStuck p.val
  match switchUse p with
  | .support _ => w
  | .axis a d =>
    let w := if (w.switch (partner p)).pressed then w else w.setConflict a false
    if r.delivered then w.axisRelease a d else w

/-- The contact has kept its state for 20 ms (R191). -/
def Work.debounced (w : Work) (p : SwitchPos) : Work :=
  if (w.switch p).contact then w.switchPressed p else w.switchReleased p

/-- The next repeat of a lumbar or bolster position (R191). -/
def Work.switchRepeat (w : Work) (p : SwitchPos) : Work :=
  match switchUse p with
  | .axis _ _ => w
  | .support k =>
    ((w.setSwitch p { w.switch p with repeatAt := some (w.now + Config.nextRepeat) }).restartRunOn).supportSwitch k

/-- A position held 60 s becomes STUCK (R193). -/
def Work.switchStuck (w : Work) (p : SwitchPos) : Work :=
  let r := w.switch p
  let w := w.setSwitch p { r with cond := .stuck, delivered := false, stuckAt := none, repeatAt := none }
  let w := match switchUse p with
    | .axis a d => if r.delivered then w.axisRelease a d else w
    | .support _ => w
  w.raiseLive .switchStuck p.val

/-- RESTART: each PRESSED position becomes HELD_AT_RESET, with its hold timer from now (R193). -/
def SwitchRec.restarted (r : SwitchRec) (now : Time) : SwitchRec :=
  if r.pressed then
    { r with cond := .heldAtReset, delivered := false, repeatAt := none, stuckAt := some (now + Config.stuckTime) }
  else r

def Work.restartSwitches (w : Work) : Work :=
  { w with switches := ⟨w.switches.records.map (·.restarted w.now), Vector.replicate 7 false⟩ }

/-- The press that a debounce expiry of `p` would deliver in SLEEP wakes the part first (R191, R196). -/
def State.wakeForPress (s : State) (p : SwitchPos) : State :=
  let r := s.seat.switch p
  match r.debounceAt with
  | none => s
  | some t => if r.contact && s.seat.band.isSome then { s with seat := { s.seat with now := max s.seat.now t } }.wake else s

end Sys2Proof.Machine
end

