-- ==== Sys2Proof/Machine/Requests.lean ====
section
/-!
DEFINITION. Service requests whose answer is read from several blocks (R23, R49, R121, R188, R189, R199, R200).
-/
namespace Sys2Proof.Machine

open Sys2Proof

/-! ### QUERY_BUDGET (R23) -/

/-- G as the answer codes it: the value, 1023 for UNLIMITED, FFFFh for STALE (R202). -/
def EnergyRec.code (e : EnergyRec) : Nat :=
  match e.staleAt, e.allowance with
  | none, _ => 0xFFFF
  | some _, .unlimited => 1023
  | some _, .value g => g

/-- The SUMMARY answer (R23). -/
def Seat.budgetSummary (s : Seat) : List Byte :=
  byte1 s.bandCode ++ flagByte s.protecting ++ word2 s.fuseCeiling ++ word2 s.fallback ++ word2 s.peers.energy.code ++
  flagByte s.shedComfort ++ word2 s.othersUse ++ word2 s.allowance ++ word2 s.ceiling ++ word2 s.loadCeiling ++
  word2 s.alloc.total ++ byte1 s.alloc.queue.length

/-- A claim as the answer shows it (R23): an optional group of flag, class and amount, which is log entry 59 (DESIGN
CHOICE). -/
def claimFields (c : Option (Cls × Nat)) : List Byte :=
  match c with
  | none => [0, 0, 0, 0]
  | some (cls, amount) => flagByte true ++ byte1 cls.code ++ word2 amount

/-- The answer for an axis or the pump (R23). -/
def Alloc.loadFields (al : Alloc) (l : Load) : List Byte :=
  match al.grantOf l, al.entryOf l with
  | some g, _ =>
    let phase := match l with
      | .axis _ => some g.phase.code
      | .pump => none
    claimFields (some (g.cls, g.amount)) ++ word2 g.amount ++ optByte phase ++ byte1 1 ++ optByte none
  | none, some e =>
    claimFields (some (e.cls, e.amount)) ++ word2 0 ++ optByte none ++ byte1 2 ++
      byte1 (al.queue.findIdx (·.load == l) + 1)
  | none, none => claimFields none ++ word2 0 ++ optByte none ++ byte1 0 ++ optByte none

/-- The answer for a heater zone; it never shows QUEUED (R23). -/
def Alloc.heatFields (al : Alloc) (z : Zone) : List Byte :=
  claimFields (if al.heatClaim z = 0 then none else some (.p0, al.heatClaim z)) ++ word2 (al.heatGrant z) ++
    optByte none ++ byte1 (if al.heatGrant z = 0 then 0 else 1) ++ optByte none

/-- Result and content of QUERY_BUDGET (R23). -/
def Seat.queryBudget (s : Seat) (selector : Nat) : Result × List Byte :=
  if selector = 255 then (.ok, s.budgetSummary)
  else match Axis.ofNat? selector with
    | some a => if s.present a then (.ok, s.alloc.loadFields (.axis a)) else (.absent, [])
    | none => match selector with
      | 7 => (.ok, s.alloc.loadFields .pump)
      | 8 => (.ok, s.alloc.heatFields .cushion)
      | 9 => (.ok, s.alloc.heatFields .back)
      | _ => (.badValue, [])

/-! ### QUERY_AXIS (R49) -/

/-- The current operation as the answer shows it (R49). -/
def opFields (o : Option Op) : List Byte :=
  match o with
  | none => [0, 0, 0, 0, 0, 0, 0]
  | some o =>
    flagByte true ++ byte1 o.source.code ++ byte1 o.kind.code ++ byte1 o.state.code ++ optWord2 o.target ++ byte1 o.tag

/-- The content of an OK answer (R49). -/
def Seat.axisFields (s : Seat) (a : Axis) : List Byte :=
  let r := s.axis a
  byte1 a.index.val ++ optByte ((Config.channelMap s.variant a).map (·.val)) ++ word2 r.position ++
  flagByte r.referenced ++ byte1 r.drive.code ++ byte1 (dirCode r.lastDir) ++ byte1 r.tally ++ flagByte r.waiting ++
  opFields r.op

/-- Result and content of QUERY_AXIS (R49). -/
def Seat.queryAxis (s : Seat) (index : Nat) : Result × List Byte :=
  match Axis.ofNat? index with
  | none => (.badValue, [])
  | some a => if s.present a then (.ok, s.axisFields a) else (.absent, [])

/-! ### QUERY_CELLS (R121) -/

/-- The active operation as the answer shows it (R121). -/
def activeFields (e : Option AirEntry) : List Byte :=
  match e with
  | none => [0, 0, 0, 0, 0, 0]
  | some (.fill f) => flagByte true ++ byte1 0 ++ byte1 f.cls.code ++ cellsBytes f.cells ++ byte1 f.target
  | some (.measure c) => flagByte true ++ byte1 1 ++ byte1 AirClass.support.code ++ cellsBytes [c] ++ optByte none

/-- Whether the pump runs (R104). -/
def Manifold.pumps : Manifold → Bool
  | .pumping _ => true
  | .idle | .fillWait _ | .measuring _ _ => false

/-- The adjustments in progress or pending. -/
def Seat.adjustments (s : Seat) : Nat := (Config.supportCells.filter fun c => (s.cell c).adj.isSome).length

/-- The SUMMARY answer (R121). -/
def Seat.cellsSummary (s : Seat) : List Byte :=
  let p := s.pneu
  byte1 p.lumbarUpper ++ byte1 p.lumbarLower ++ byte1 p.bolster ++ byte1 p.hold.code ++
  byte1 (if p.manifold.pumps then 0 else 1) ++ byte1 p.manifold.code ++ byte1 p.reading ++ activeFields p.manifold.active ++
  byte1 p.queue.length ++ byte1 s.adjustments

/-- An adjustment as the answer shows it (R121), an optional group (log entry 59). -/
def adjFields (a : Option Adjustment) : List Byte :=
  match a with
  | none => [0, 0, 0, 0]
  | some a => flagByte true ++ byte1 a.target ++ byte1 a.phase.code ++ byte1 a.count

/-- The age of the last pressure in whole seconds, held at 255; none while it is absent (R121). -/
def Cell.age (c : Cell) (now : Time) : Option Int := c.last.map fun _ => ((min 255 ((now - c.lastAt) / seconds 1) : Nat) : Int)

/-- The vent remaining in ms, none unless VENTING (R103); the model rounds a fraction of a ms up (log entry 45). -/
def Cell.ventLeft (c : Cell) (now : Time) : Option Int := (unitsLeft (msec 1) now c.ventEnd).map (fun n => (n : Int))

/-- The answer for one cell (R121). That the vent remaining and the full mark are two lone fields, 8000h and 0 where the
cell is not VENTING, is log entry 59 (DESIGN CHOICE). -/
def Seat.cellFields (s : Seat) (c : CellIx) : List Byte :=
  let r := s.cell c
  let belongs := s.pneu.manifold.active.any (·.cells.contains c) || s.pneu.queue.any (·.cells.contains c)
  byte1 r.state.code ++ optByte r.last ++ optWord2 (r.age s.now) ++ optWord2 (r.ventLeft s.now) ++
  flagByte (r.state == .venting && r.ventFull) ++ adjFields r.adj ++ flagByte belongs

/-- Result and content of QUERY_CELLS (R121). -/
def Seat.queryCells (s : Seat) (selector : Nat) : Result × List Byte :=
  if selector = 255 then (.ok, s.cellsSummary)
  else if h : selector < 14 then
    (if s.cellPresent ⟨selector, h⟩ then (.ok, s.cellFields ⟨selector, h⟩) else (.absent, []))
  else (.badValue, [])

/-! ### Faults (R42, R188, R189) -/

/-- Result and content of QUERY_FAULTS (R189). -/
def FaultTable.query (t : FaultTable) (selector : Nat) : Result × List Byte :=
  if selector = 255 then (.ok, mapBytes 2 (kindsOf t.latched) ++ mapBytes 2 (kindsOf t.live) ++ byte1 t.latched.length)
  else match FaultKind.all[selector]? with
    | some k => (.ok, byte1 k.code ++ mapBytes 3 (indexesOf k t.latched) ++ mapBytes 3 (indexesOf k t.live))
    | none => (.badValue, [])

/-- CLEAR_FAULTS at an axis (R42). -/
def AxisRec.faultCleared (r : AxisRec) : AxisRec :=
  { r with drive := if r.drive == .fault then .idle else r.drive, pendingFault := false }

/-- CLEAR_FAULTS (R188). -/
def Work.clearFaults (w : Work) : Work :=
  let before := w.faults.latched.length
  let t := w.faults.clearLatched
  let w := Work.mapAxes { w with faults := t } AxisRec.faultCleared
  w.answer 0x0B .ok none (byte1 (before - t.latched.length) ++ byte1 t.latched.length)

/-! ### CONFIGURE (R199) -/

/-- A trim byte as a number in −7..+7, none outside (11.1). -/
def trimOf (b : Byte) : Option Int := if -7 ≤ b.toInt ∧ b.toInt ≤ 7 then some b.toInt else none

/-- The configuration that seven parameters spell, none where one is out of range (R199). -/
def Configuration.ofBytes (variant fuse fallback concurrency runOn cushionTrim backTrim : Byte) : Option Configuration :=
  match trimOf cushionTrim, trimOf backTrim with
  | some ct, some bt =>
    if h : variant.toNat < 4 then
      if 10 ≤ fuse.toNat && fuse.toNat ≤ 35 && fallback.toNat ≤ 40 && 1 ≤ concurrency.toNat && concurrency.toNat ≤ 3 &&
          runOn.toNat ≤ 1 then
        some ⟨⟨variant.toNat, h⟩, fuse.toNat, fallback.toNat, concurrency.toNat, runOn.toNat == 1, ct, bt⟩
      else none
    else none
  | _, _ => none

/-- The massage cells and the sequencer follow a change of the variant (R136, R199). -/
def Work.massageVariant (w : Work) (old new : Fin 4) : Work :=
  if old != 3 && new == 3 then (w.directOff .absent).massageCellsAbsent
  else if old == 3 && new != 3 then w.massageCellsPresent
  else w

/-- An accepted configuration is handed to the blocks (R199). All of it is in force at once, but that the channels are still
those of the variant before while the operations of the axes that move end, before the new map is taken (R25); what these
endings admit is admitted by the new N (R55, log entry 41). An entry to RESTORING that the end of a PROTECT sequence brings
comes after all of it (log entry 60, DESIGN CHOICE). -/
def Work.configureWith (w : Work) (c : Configuration) : Work :=
  let old := w.toSeat
  let w : Work := { w with power := { w.power with window := none, config := { c with variant := old.variant } } }
  let w := w.allocate (Allocating.recompute .budget)
  let w := if c.variant == old.variant then w else w.changeMap c.variant
  (w.admitWaiting.massageVariant old.variant c.variant).trimsChanged old

/-- The tests of R199. -/
def Seat.configureTest (s : Seat) (c : Option Configuration) : Result :=
  if s.power.window.isNone then .configClosed
  else match c with
    | none => .badValue
    | some c => if c.variant != s.variant && !s.axesResting then .busy else .ok

/-- CONFIGURE (R199). -/
def Work.configure (w : Work) (c : Option Configuration) : Work :=
  let r := w.configureTest c
  let w := w.answer 0x0D r none []
  match r, c with
  | .ok, some c => w.configureWith c
  | _, _ => w

/-! ### RESTART (R200) -/

/-- Every block takes its RESTART values (R200). Where this ends a PROTECT sequence in HOLDING with the hold-expired mark set,
the pre-crash unit enters RESTORING (R166) only after all of these values, at the notice of the SEQUENCE_DONE: the RESTORE
sequence and the bolster adjustments of that entry survive. R200 gives no order; log entry 60 (DESIGN CHOICE). -/
def Work.restartBlocks (w : Work) : Work :=
  let w := ((w.restartMotion.restartPneu.directOff .restart).restartHeat.restartStore.restartSwitches)
  Work.restartRunOn { w with power := { w.power with window := some (w.now + Config.configWindowTime) } }

/-- RESTART is answered STATE while PROTECTING (R200). -/
def Work.restart (w : Work) : Work :=
  if w.protecting then w.answer 0x0E .state none [] else (w.answer 0x0E .ok none []).restartBlocks

end Sys2Proof.Machine
end

