-- ==== Sys2Proof/Machine/SupplyCommands.lean ====
section
/-!
DEFINITION. The commands of chapter 1: supply, allowance, peer status, and QUERY_BUDGET.
-/
namespace Sys2Proof.Machine

open Sys2Proof Host

/-- SUPPLY_COMPARATOR_EVENT (R1): a band change, or supply reset below 6.0 V. -/
def execSupplyComparatorEvent (mv : Nat) (s : State) : Outcome State Fault Refusal :=
  .next (if mv < 6000 && s.seat.band.isSome then s.powerDown else s.act fun w => w.voltage mv)

/-- SUPPLY_RESET_EXIT (R197): only out of supply reset and at 6.0 V or more. -/
def execSupplyResetExit (node : Station) (side : Side) (mv : Nat) (s : State) : Outcome State Fault Refusal :=
  .next (match s.seat.band, firstBand mv with
    | none, some b => s.powerUp node side b
    | _, _ => s)

/-- The allocator, the heater controller and the sequencer take a change of the ENERGY_ALLOWANCE record (R5, R7). -/
def Work.energyChanged (w : Work) (e : EnergyRec) : Work :=
  let w : Work := { w with peers := { w.peers with energy := e } }
  ((w.allocate (Allocating.recompute .budget)).refreshHeat).massageShed

/-- ENERGY_ALLOWANCE (R5, R177). -/
def Work.energyFrame (w : Work) (data : List Byte) : Work :=
  match readEnergy data with
  | none => w.raise .frameFormat srcEnergy
  | some (g, shed) => (w.clearLive .peerStale srcEnergy).energyChanged ⟨g, shed, some (w.now + Config.allowanceLimit)⟩

def execEnergyAllowance (data : List Byte) (s : State) : Outcome State Fault Refusal :=
  .next (s.receive fun w => w.energyFrame data)

/-- PEER_STALE of a watched record, if the ignition held was ACC or RUN (R179). -/
def Work.peerStale (w : Work) (src : Nat) : Work := if w.ignition == .off then w else w.raiseLive .peerStale src

/-- ALLOWANCE_STALE (R5, R179). -/
def execAllowanceStale (s : State) : Outcome State Fault Refusal :=
  .next (s.act fun w => w.expiry w.peers.energy.staleAt fun w =>
    (w.peerStale srcEnergy).energyChanged { w.peers.energy with staleAt := none })

/-- A station's record changes and the ceiling is recomputed (R6, R7). -/
def Work.stationChanged (w : Work) (n : Station) (r : StationRec) : Work :=
  Work.allocate { w with peers := { w.peers with stations := w.peers.stations.set n.val r n.isLt } }
    (Allocating.recompute .budget)

/-- PEER_STATUS of another station (R6, R177). -/
def Work.peerFrame (w : Work) (n : Station) (data : List Byte) : Work :=
  match readPeerStatus data with
  | none => w.raise .frameFormat srcPeerStatus
  | some u => w.stationChanged n ⟨u, some (w.now + Config.stationLimit)⟩

/-- PEER_STATUS (R6); a frame on the own status identifier is ignored whole (R176). -/
def execPeerStatus (n : Station) (data : List Byte) (s : State) : Outcome State Fault Refusal :=
  .next (if n == s.seat.power.node then s else s.receive fun w => w.peerFrame n data)

/-- PEER_STATUS_STALE (R6). -/
def execPeerStatusStale (n : Station) (s : State) : Outcome State Fault Refusal :=
  .next (s.act fun w => w.expiry (w.peers.stations.get n).staleAt fun w =>
    w.stationChanged n { w.peers.stations.get n with staleAt := none })

/-- A request answered by a result and a content alone. -/
def Work.answerQuery (w : Work) (code : Nat) (r : Result × List Byte) : Work := w.answer code r.1 none r.2

/-- QUERY_BUDGET (R23). -/
def State.queryBudget (s : State) (selector : Byte) : State :=
  s.receive fun w => w.answerQuery 0x01 (w.queryBudget selector.toNat)

def execQueryBudget (selector : Byte) (s : State) : Outcome State Fault Refusal := .next (s.queryBudget selector)

end Sys2Proof.Machine
end

