-- ==== Sys2Proof/Machine/ComfortCommands.lean ====
section
/-!
DEFINITION. The commands of chapters 5, 6 and 7: manifold, vents and leaks, comfort requests, massage and heating.
-/
namespace Sys2Proof.Machine

open Sys2Proof Host

/-! ### Air -/

/-- MANIFOLD_READING_CHANGE (R107, log entry 6). -/
def execManifoldReadingChange (reading : Nat) (s : State) : Outcome State Fault Refusal :=
  .next (s.act fun w => w.readingChanged reading)

/-- FILL_LIMIT_EXPIRY (R107). -/
def execFillLimitExpiry (s : State) : Outcome State Fault Refusal :=
  .next (s.act fun w => w.expiry w.pneu.manifold.limitAt fun w => w.endActive .limit)

/-- FILL_UNCONFIRMED_TIMEOUT (R107, R108). -/
def execFillUnconfirmedTimeout (s : State) : Outcome State Fault Refusal :=
  .next (s.act fun w => w.expiry w.pneu.manifold.unconfirmedAt fun w => w.fillFailed)

/-- MEASURE_SETTLE_EXPIRY (R109). -/
def execMeasureSettleExpiry (reading : Nat) (s : State) : Outcome State Fault Refusal :=
  .next (s.act fun w => match w.pneu.manifold with
    | .measuring c t => (w.reach t).measureSettled c reading
    | .idle | .fillWait _ | .pumping _ => w)

/-- VENT_END (R113). -/
def execVentEnd (c : CellIx) (s : State) : Outcome State Fault Refusal :=
  .next (s.act fun w => w.expiry (w.cell c).ventEnd fun w => (w.setCell c ((w.cell c).ventEnded w.now)).tellVentOver c)

/-- LEAK_TIMER_EXPIRY (R118). -/
def execLeakTimerExpiry (c : CellIx) (s : State) : Outcome State Fault Refusal :=
  .next (s.act fun w => w.expiry (w.cell c).leakAt fun w => w.leakExpired c)

/-- QUERY_CELLS (R121). -/
def State.queryCells (s : State) (selector : Byte) : State :=
  s.receive fun w => w.answerQuery 0x09 (w.queryCells selector.toNat)

def execQueryCells (selector : Byte) (s : State) : Outcome State Fault Refusal := .next (s.queryCells selector)

/-! ### Comfort requests and massage -/

/-- COMFORT_REQUEST: the heater controller takes it before the sequencer (R125, R152, R177, log entry 46). -/
def Work.comfortFrame (w : Work) (data : List Byte) : Work :=
  match readComfort data with
  | none => w.raise .frameFormat srcComfort
  | some f =>
    let w := w.clearLive .peerStale srcComfort
    let w : Work := { w with peers := { w.peers with comfort := ⟨some f, some (w.now + Config.comfortLimit)⟩ } }
    (w.comfortHeat f).comfortMassage f

def execComfortRequest (data : List Byte) (s : State) : Outcome State Fault Refusal :=
  .next (s.receive fun w => w.comfortFrame data)

/-- MASSAGE_STREAM (R137, R177). -/
def execMassageStream (data : List Byte) (s : State) : Outcome State Fault Refusal :=
  .next (s.receive fun w => match readStream data with
    | none => w.raise .frameFormat srcStream
    | some q => w.streamFrame q)

/-- STEP_HOLD_EXPIRY (R130). -/
def execStepHoldExpiry (s : State) : Outcome State Fault Refusal :=
  .next (s.act fun w => w.expiry w.massage.holdEnd fun w => w.nextStep)

/-- SESSION_TIMER_EXPIRY (R129). -/
def execSessionTimerExpiry (s : State) : Outcome State Fault Refusal :=
  .next (s.act fun w => w.expiry w.massage.sessionEnd fun w => w.endSession .timeout)

/-- VENTING_TIMER_EXPIRY (R135). -/
def execVentingTimerExpiry (s : State) : Outcome State Fault Refusal :=
  .next (s.act fun w => w.expiry w.massage.ventingEnd fun w => w.ventingToOff w.massage.reason)

/-- STREAM_WATCH_EXPIRY (R139). -/
def execStreamWatchExpiry (s : State) : Outcome State Fault Refusal :=
  .next (s.act fun w => w.expiry w.massage.watch fun w => w.endSession .streamStale)

/-! ### Heating -/

/-- HEATER_INTERVAL_START (R144). -/
def execHeaterIntervalStart (s : State) : Outcome State Fault Refusal :=
  .next (s.act fun w => w.expiry w.heat.intervalAt Work.intervalStart)

/-- HEATER_MEASUREMENT_DONE (R144, R145): the count ends 5 ms and `count` µs after the measurement began. -/
def execHeaterMeasurementDone (z : Zone) (count : Nat) (s : State) : Outcome State Fault Refusal :=
  .next (s.act fun w => w.expiry ((w.zone z).measuring.map fun t => t + Config.dischargeTime + count) fun w =>
    w.measured z count)

/-- HEATER_PWM_PERIOD (R151). -/
def execHeaterPwmPeriod (s : State) : Outcome State Fault Refusal :=
  .next (s.act fun w => w.expiry w.heat.periodAt Work.periodBegin)

/-- STEP_DOWN_EXPIRY (R155). -/
def execStepDownExpiry (z : Zone) (s : State) : Outcome State Fault Refusal :=
  .next (s.act fun w => w.expiry (w.zone z).stepDown fun w => w.stepDownEnds z)

end Sys2Proof.Machine
end

