-- ==== Sys2Proof/Machine/MotionCommands.lean ====
section
/-!
DEFINITION. The commands of chapters 2 and 3: timers of a drive, hall edges, obstruction, and the motion requests.
-/
namespace Sys2Proof.Machine

open Sys2Proof Host

/-- A timer of an axis that runs only in one drive state. -/
def AxisRec.phaseTimer (r : AxisRec) (d : Drive) : Option Time := if r.drive == d then r.phaseEnd else none

/-- The axis enters RUNNING: the stall timer starts, the claim is lowered, and the next member may be offered
(R9, R29, R40, R68). -/
def Work.enterRunning (w : Work) (a : Axis) : Work :=
  let r := w.axis a
  let w := w.setAxis a { r with drive := .running, phaseEnd := none, stallAt := some (w.now + Config.stallLimit) }
  let w := w.allocate (Allocating.stepDown a)
  if r.op.any (fun o => o.member && o.state == .moving) then
    (w.updateMember a fun m => { m with running := m.running || m.state == .active }).post .sequence
  else w

/-- START_INTERVAL_EXPIRY (R29). -/
def execStartIntervalExpiry (a : Axis) (s : State) : Outcome State Fault Refusal :=
  .next (s.act fun w => w.expiry ((w.axis a).phaseTimer .starting) fun w => w.enterRunning a)

/-- COAST_END (R31). -/
def execCoastEnd (a : Axis) (s : State) : Outcome State Fault Refusal :=
  .next (s.act fun w => w.expiry ((w.axis a).phaseTimer .coasting) fun w => w.coastEnded a)

/-- BRAKE_END (R32). -/
def execBrakeEnd (a : Axis) (s : State) : Outcome State Fault Refusal :=
  .next (s.act fun w => w.expiry ((w.axis a).phaseTimer .braking) fun w => w.brakeEnded a)

/-- An edge on a channel: taken by the present axis that has it, and by none in SLEEP (R37, R39). -/
def Work.channelEdge (w : Work) (ch : Channel) : Work :=
  if w.power.mode == .sleep then w
  else match Config.axisOn w.variant ch with
    | none => w
    | some a => w.takeEdge a

/-- HALL_EDGE (R37); `dt` µs have passed since the command before it (log entry 3). -/
def execHallEdge (ch : Channel) (dt : Nat) (s : State) : Outcome State Fault Refusal :=
  .next (s.act fun w => Work.channelEdge { w with now := w.now + dt } ch)

/-- STALL_TIMER_EXPIRY (R40). -/
def execStallTimerExpiry (a : Axis) (s : State) : Outcome State Fault Refusal :=
  .next (s.act fun w => w.expiry (w.axis a).stallAt fun w => w.stalled a)

/-- OBSTRUCTION_DETECTED (R45). -/
def execObstructionDetected (a : Axis) (s : State) : Outcome State Fault Refusal :=
  .next (s.act fun w => w.expiry (w.axis a).obstructionAt fun w => w.obstructionFound a)

/-- TIMED_DRIVE_EXPIRY (R35, R66). -/
def execTimedDriveExpiry (a : Axis) (s : State) : Outcome State Fault Refusal :=
  .next (s.act fun w => w.expiry (w.axis a).timedEnd fun w => (w.removeDrive a).setOpState a .settling)

/-- START_TIMEOUT (R56). -/
def execStartTimeout (a : Axis) (s : State) : Outcome State Fault Refusal :=
  .next (s.act fun w => w.expiry ((w.axis a).op.bind (·.startTimer)) fun w => w.endOp a .budgetTimeout)

/-- MOVE_AXIS (R73). -/
def State.moveAxis (s : State) (axis : Byte) (target : BitVec 16) (tag : Byte) : State :=
  s.receive fun w => match Axis.ofNat? axis.toNat with
    | none => w.answer 0x03 .badValue none []
    | some a => w.moveAxis a target.toNat tag.toNat

def execMoveAxis (axis : Byte) (target : BitVec 16) (tag : Byte) (s : State) : Outcome State Fault Refusal :=
  .next (s.moveAxis axis target tag)

/-- The selector of HOME_AXIS: ALL, one axis, or out of range (R74). -/
def homeSelector (b : Byte) : Option (Option Axis) :=
  if b.toNat = 255 then some none else (Axis.ofNat? b.toNat).map some

/-- HOME_AXIS (R74). -/
def State.homeAxis (s : State) (selector tag : Byte) : State :=
  s.receive fun w => match homeSelector selector with
    | none => w.answer 0x04 .badValue none []
    | some sel => w.homeAxis sel tag.toNat

def execHomeAxis (selector tag : Byte) (s : State) : Outcome State Fault Refusal := .next (s.homeAxis selector tag)

/-- STOP_ALL (R75). -/
def State.stopAll (s : State) : State := s.receive fun w => (w.answer 0x05 .ok none []).stopAll

def execStopAll (s : State) : Outcome State Fault Refusal := .next s.stopAll

/-- QUERY_AXIS (R49). -/
def State.queryAxis (s : State) (axis : Byte) : State :=
  s.receive fun w => w.answerQuery 0x02 (w.queryAxis axis.toNat)

def execQueryAxis (axis : Byte) (s : State) : Outcome State Fault Refusal := .next (s.queryAxis axis)

end Sys2Proof.Machine
end

