-- ==== Sys2Proof/Machine/ProfileCommands.lean ====
section
/-!
DEFINITION. The commands of chapter 4, with VEHICLE_STATE and the staleness of the peer records it shares (R178, R194).
-/
namespace Sys2Proof.Machine

open Sys2Proof Host

/-- MEMORY_KEYS (R84, R177). -/
def Work.memoryFrame (w : Work) (data : List Byte) : Work :=
  match readMemoryKeys data with
  | none => w.raise .frameFormat srcMemoryKeys
  | some (side, b) =>
    if side == some w.power.side then
      let w := w.clearLive .peerStale srcMemoryKeys
      Work.buttonsTaken { w with peers := { w.peers with memoryKeysUntil := some (w.now + Config.memoryKeysLimit) } } b
    else w

def execMemoryKeys (data : List Byte) (s : State) : Outcome State Fault Refusal :=
  .next (s.receive fun w => w.memoryFrame data)

/-- STORE_WINDOW_EXPIRY (R85). -/
def execStoreWindowExpiry (s : State) : Outcome State Fault Refusal :=
  .next (s.act fun w => w.expiry w.store.storeWindow fun w => w.modStore fun p => { p with storeWindow := none })

/-- PROFILE_WRITE_END (R81). -/
def execProfileWriteEnd (s : State) : Outcome State Fault Refusal :=
  .next (s.act fun w => match w.store.write with
    | none => w
    | some x => (w.reach x.endsAt).writeEnds x)

/-- A KEY_EVENT frame (4.6, R177). -/
def Work.keyFrame (w : Work) (data : List Byte) : Work :=
  match readKeyEvent data with
  | none => w.raise .frameFormat srcKeyEvent
  | some (.lock k) => w.keyLock k
  | some (.unlock k) => w.keyUnlock k
  | some .other => w

/-- KEY_EVENT_LOCK (R92): the frame of kind 1. -/
def execKeyEventLock (key : Byte) (s : State) : Outcome State Fault Refusal :=
  .next (s.receive fun w => w.keyFrame [1, key])

/-- KEY_EVENT_UNLOCK (R92): the frame of kind 2. -/
def execKeyEventUnlock (key : Byte) (s : State) : Outcome State Fault Refusal :=
  .next (s.receive fun w => w.keyFrame [2, key])

/-- KEY_EVENT (R176, R177): any other frame on 11Ch. -/
def execKeyEvent (data : List Byte) (s : State) : Outcome State Fault Refusal :=
  .next (s.receive fun w => w.keyFrame data)

/-- KEY_RECALL_WINDOW_EXPIRY (R92). -/
def execKeyRecallWindowExpiry (s : State) : Outcome State Fault Refusal :=
  .next (s.act fun w => w.expiry (w.store.keyWindow.map (·.closesAt)) fun w =>
    w.modStore fun p => { p with keyWindow := none })

/-! ### VEHICLE_STATE (R178, R194) -/

/-- The power mode follows the ignition (R194). -/
def Work.powerIgnition (w : Work) : Work :=
  match w.power.mode, w.ignition with
  | .runOn, .acc | .runOn, .run => { w with power := { w.power with mode := .active, runOn := none, sleepPending := false } }
  | .active, .off =>
    { w with power := { w.power with mode := .runOn, runOn := some (w.now + w.power.config.runOnTime) } }
  | .runOn, .off | .active, .acc | .active, .run | .sleep, _ => w

/-- The opening edge of either front door restarts the run-on timer (R194). -/
def Work.powerDoors (w : Work) (old new : VehicleFields) : Work :=
  if (!old.leftOpen && new.leftOpen) || (!old.rightOpen && new.rightOpen) then w.restartRunOn else w

/-- The heater controller takes the ignition (R148, R154). -/
def Work.heatVehicle (w : Work) (old : Ignition) : Work :=
  let w :=
    if old != .off && w.ignition == .off then w.heatIgnitionOff
    else if old == .off && w.ignition != .off then w.heatIgnitionOn
    else w
  w.refreshHeat

/-- The users of VEHICLE_STATE take the values of its record: power mode controller, profile store, heater controller,
massage sequencer (R177, log entry 19). -/
def Work.vehicleChanged (w : Work) (r : VehicleRec) : Work :=
  let old := w.peers.vehicle.fields
  let w : Work := { w with peers := { w.peers with vehicle := r } }
  let w := w.powerIgnition.powerDoors old r.fields
  ((w.storeVehicle old).heatVehicle old.ignition).massageIgnition

/-- A VEHICLE_STATE frame (R177, R194). -/
def Work.vehicleFrame (w : Work) (data : List Byte) : Work :=
  match readVehicle data with
  | none => w.raise .frameFormat srcVehicle
  | some f => (w.clearLive .peerStale srcVehicle).vehicleChanged ⟨f, some (w.now + Config.vehicleLimit)⟩

def execVehicleState (data : List Byte) (s : State) : Outcome State Fault Refusal :=
  .next (s.receive fun w => w.vehicleFrame data)

/-- When a record reaches its stale limit, none while it is STALE (R178). -/
def Peers.staleAt (p : Peers) : PeerRecord → Option Time
  | .vehicleState => p.vehicle.staleAt
  | .memoryKeys => p.memoryKeysUntil
  | .comfortRequest => p.comfort.staleAt

/-- A record becomes STALE (R178, R179). -/
def Work.recordStale (w : Work) (r : PeerRecord) : Work :=
  match r with
  | .vehicleState => (w.peerStale srcVehicle).vehicleChanged VehicleRec.stale
  | .memoryKeys =>
    let w := w.peerStale srcMemoryKeys
    Work.modStore { w with peers := { w.peers with memoryKeysUntil := none } } fun p => { p with buttons := Buttons.released }
  | .comfortRequest =>
    let w := w.peerStale srcComfort
    { w with peers := { w.peers with comfort := { w.peers.comfort with staleAt := none } } }

/-- PEER_RECORD_STALE (R178). -/
def execPeerRecordStale (r : PeerRecord) (s : State) : Outcome State Fault Refusal :=
  .next (s.act fun w => w.expiry (w.peers.staleAt r) fun w => w.recordStale r)

/-! ### Export, import and erase -/

/-- A request for a slot; a code that names none is answered BAD_VALUE (R97, R98, R100). -/
def State.slotRequest (s : State) (code : Nat) (slot : Byte) (f : Work → Fin 7 → Work) : State :=
  s.receive fun w => match slotOfCode slot.toNat with
    | none => w.answer code .badValue none []
    | some i => f w i

/-- PROFILE_EXPORT (R97). -/
def execProfileExport (slot : Byte) (s : State) : Outcome State Fault Refusal :=
  .next (s.slotRequest 0x06 slot Work.profileExport)

/-- PROFILE_IMPORT (R98). -/
def execProfileImport (slot : Byte) (s : State) : Outcome State Fault Refusal :=
  .next (s.slotRequest 0x07 slot Work.profileImport)

/-- PROFILE_ERASE (R100). -/
def execProfileErase (slot : Byte) (s : State) : Outcome State Fault Refusal :=
  .next (s.slotRequest 0x08 slot Work.profileErase)

/-- PROFILE_DATA (R98, R177). -/
def execProfileData (data : List Byte) (s : State) : Outcome State Fault Refusal :=
  .next (s.receive fun w => match readProfileData data with
    | none => w.raise .frameFormat srcProfileData
    | some (i, bytes) => w.profileFrame i bytes)

/-- IMPORT_TIMEOUT (R98). -/
def execImportTimeout (s : State) : Outcome State Fault Refusal :=
  .next (s.act fun w => match w.store.assembly with
    | none => w
    | some a => (w.reach a.closesAt).importFails a.slot .importTimeout)

end Sys2Proof.Machine
end

