-- ==== Sys2Proof/Machine/LinkCommands.lean ====
section
/-!
DEFINITION. The commands of chapters 8 to 10: pre-crash, the transmitter, faults, power modes, configuration and RESTART.
-/
namespace Sys2Proof.Machine

open Sys2Proof Host

/-! ### Pre-crash -/

/-- The stale limit by the level last accepted (R160). -/
def precrashLimit : PrecrashLevel → Time
  | .alert => msec 100
  | .none | .crash => msec 1000

/-- A PRECRASH frame of good length at the level check (R159). -/
def Work.levelCheck (w : Work) (code counter : Nat) : Work :=
  match PrecrashLevel.ofNat? code with
  | none => w
  | some level =>
    if w.peers.precrash.counter == some counter then w
    else
      let r : PrecrashRec := ⟨level, some counter, some (w.now + precrashLimit level)⟩
      let w := w.clearLive .peerStale srcPrecrash
      Work.deliverLevel { w with peers := { w.peers with precrash := r } } level .none

/-- PRECRASH (R159, R177). -/
def execPrecrash (data : List Byte) (s : State) : Outcome State Fault Refusal :=
  .next (s.receive fun w => match readPrecrash data with
    | none => w.raise .frameFormat srcPrecrash
    | some (code, counter) => w.levelCheck code counter)

/-- PRECRASH_STALE (R160, R179): the counter is kept. -/
def execPrecrashStale (s : State) : Outcome State Fault Refusal :=
  .next (s.act fun w => w.expiry w.peers.precrash.staleAt fun w =>
    let w := w.peerStale srcPrecrash
    Work.deliverLevel { w with peers := { w.peers with
      precrash := { w.peers.precrash with level := .none, staleAt := none } } } .none .stale)

/-- PCU_HOLD_EXPIRY (R166). -/
def execPcuHoldExpiry (s : State) : Outcome State Fault Refusal :=
  .next (s.act fun w => w.expiry w.pcu.holdEnd Work.holdEnds)

/-- POSTCRASH_RELEASE (R173). -/
def State.postcrashRelease (s : State) : State := s.receive Work.postcrashRelease

def execPostcrashRelease (s : State) : Outcome State Fault Refusal := .next s.postcrashRelease

/-! ### The transmitter -/

/-- The loaded frame ends in an outcome; without one nothing happens (R180). -/
def State.outcome (s : State) (g : Loaded → Link → Link) (f : Loaded → Work → Work) : State :=
  match s.link.loaded with
  | none => s
  | some x => s.actLink (g x) (f x)

/-- TX_SENT (R180). -/
def execTxSent (s : State) : Outcome State Fault Refusal :=
  .next (s.outcome (fun f l => l.sentOk f) fun f w => w.exportSent f)

/-- TX_ARBITRATION_LOST (R180). -/
def execTxArbitrationLost (s : State) : Outcome State Fault Refusal :=
  .next (s.outcome (fun _ l => l.sentLost) fun _ w => w)

/-- TX_FAILED (R180, R181). -/
def execTxFailed (s : State) : Outcome State Fault Refusal :=
  .next (s.outcome (fun _ l => l.sentFailed s.seat.now) fun _ w =>
    if Config.linkOffTally ≤ s.link.tally + 8 then w.raiseLive .linkOff 0 else w)

/-- LINK_OFF_EXPIRY (R181). -/
def execLinkOffExpiry (s : State) : Outcome State Fault Refusal :=
  .next (match s.link.offUntil with
    | none => s
    | some t => s.actLink Link.turnOn fun w => (w.reach t).clearLive .linkOff 0)

/-- STATUS_TIMER_EXPIRY (R183). -/
def execStatusTimerExpiry (s : State) : Outcome State Fault Refusal :=
  .next (match s.link.statusAt with
    | none => s
    | some t => s.actLink (fun l => l.statusTick (max s.seat.now t)) fun w => w.reach t)

/-! ### Faults, configuration and RESTART -/

/-- CLEAR_FAULTS (R188). -/
def State.clearFaults (s : State) : State := s.receive Work.clearFaults

def execClearFaults (s : State) : Outcome State Fault Refusal := .next s.clearFaults

/-- QUERY_FAULTS (R189). -/
def State.queryFaults (s : State) (selector : Byte) : State :=
  s.receive fun w => w.answerQuery 0x0C (w.faults.query selector.toNat)

def execQueryFaults (selector : Byte) (s : State) : Outcome State Fault Refusal := .next (s.queryFaults selector)

/-- RUN_ON_TIMER_EXPIRY (R195): SLEEP is entered at the end of the step where its conditions hold, else it is pending. -/
def execRunOnTimerExpiry (s : State) : Outcome State Fault Refusal :=
  .next (s.act fun w => w.expiry w.power.runOn fun w =>
    { w with power := { w.power with runOn := none, sleepPending := true } })

/-- CONFIG_WINDOW_EXPIRY (R198). -/
def execConfigWindowExpiry (s : State) : Outcome State Fault Refusal :=
  .next (s.act fun w => w.expiry w.power.window fun w => { w with power := { w.power with window := none } })

/-- CONFIGURE (R199). -/
def State.configure (s : State) (c : Option Configuration) : State := s.receive fun w => w.configure c

def execConfigure (variant fuse fallback concurrency runOn cushionTrim backTrim : Byte) (s : State) :
    Outcome State Fault Refusal :=
  .next (s.configure (Configuration.ofBytes variant fuse fallback concurrency runOn cushionTrim backTrim))

/-- RESTART (R200): refused while PROTECTING; otherwise a loaded export frame loses its export (log entry 24). -/
def State.restart (s : State) : State :=
  if s.seat.band.isNone then s
  else s.wake.actLink (if s.seat.protecting then id else Link.restart) Work.restart

def execRestart (s : State) : Outcome State Fault Refusal := .next s.restart

/-! ### Service dispatch (R185) -/

/-- A request of known code and good length goes to its owning block (R185). -/
def State.dispatch (s : State) (i : Instr) : State :=
  match i with
  | .queryBudget x => s.queryBudget x
  | .queryAxis a => s.queryAxis a
  | .moveAxis a t g => s.moveAxis a t g
  | .homeAxis x g => s.homeAxis x g
  | .stopAll => s.stopAll
  | .profileExport x => s.slotRequest 0x06 x Work.profileExport
  | .profileImport x => s.slotRequest 0x07 x Work.profileImport
  | .profileErase x => s.slotRequest 0x08 x Work.profileErase
  | .queryCells x => s.queryCells x
  | .postcrashRelease => s.postcrashRelease
  | .clearFaults => s.clearFaults
  | .queryFaults x => s.queryFaults x
  | .configure v f b n r c t => s.configure (Configuration.ofBytes v f b n r c t)
  | .restart => s.restart
  | _ => s

/-- A SERVICE_REQUEST frame that is discarded or answered BAD_REQUEST (R185). -/
def Work.badRequest (w : Work) (data : List Byte) : Work :=
  match data with
  | [] => w.raise .frameFormat srcService
  | c :: _ => w.answer c.toNat .badRequest none []

/-- UNKNOWN_SERVICE_REQUEST (R185); a frame that is a good request after all is dispatched (log entry 17). -/
def execUnknownServiceRequest (data : List Byte) (s : State) : Outcome State Fault Refusal :=
  .next (match readRequest data with
    | some i => s.dispatch i
    | none => s.receive fun w => w.badRequest data)

end Sys2Proof.Machine
end

