-- ==== Sys2Proof/Machine/SwitchCommands.lean ====
section
/-!
DEFINITION. The commands of the switch scanner (10.1).
-/
namespace Sys2Proof.Machine

open Sys2Proof Host

/-- CONTACT_CHANGE (R191); in supply reset only the pin changes (log entry 5). -/
def execContactChange (p : SwitchPos) (closed : Bool) (s : State) : Outcome State Fault Refusal :=
  .next (if s.seat.band.isNone then
      { s with seat := ((Work.start s.seat).setSwitch p { s.seat.switch p with contact := closed }).toSeat }
    else s.act fun w => w.setSwitch p ((w.switch p).contactTo closed w.now))

/-- DEBOUNCE_EXPIRY (R191); a press in SLEEP wakes the part first (R196). -/
def execDebounceExpiry (p : SwitchPos) (s : State) : Outcome State Fault Refusal :=
  .next ((s.wakeForPress p).act fun w => w.expiry (w.switch p).debounceAt fun w => w.debounced p)

/-- SWITCH_REPEAT_EXPIRY (R191); none comes in SLEEP (log entry 22). -/
def execSwitchRepeatExpiry (p : SwitchPos) (s : State) : Outcome State Fault Refusal :=
  .next (s.act fun w =>
    if w.power.mode == .sleep then w else w.expiry (w.switch p).repeatAt fun w => w.switchRepeat p)

/-- SWITCH_STUCK (R193). -/
def execSwitchStuck (p : SwitchPos) (s : State) : Outcome State Fault Refusal :=
  .next (s.act fun w => w.expiry (if (w.switch p).pressed then (w.switch p).stuckAt else none) fun w => w.switchStuck p)

end Sys2Proof.Machine
end

