-- ==== Sys2Proof/Machine/Dispatch.lean ====
section
/-!
DEFINITION. Which meaning each command has: one arm per constructor.
-/
namespace Sys2Proof.Machine

open Host

/-- The effect of a command on everything but the queue. -/
def exec (i : Instr) (s : State) : Host.Outcome State Fault Refusal :=
  match i with
  | .supplyComparatorEvent mv => Sys2Proof.Machine.execSupplyComparatorEvent mv s
  | .supplyResetExit node side mv => Sys2Proof.Machine.execSupplyResetExit node side mv s
  | .energyAllowance data => Sys2Proof.Machine.execEnergyAllowance data s
  | .allowanceStale => Sys2Proof.Machine.execAllowanceStale s
  | .peerStatus n data => Sys2Proof.Machine.execPeerStatus n data s
  | .peerStatusStale n => Sys2Proof.Machine.execPeerStatusStale n s
  | .startIntervalExpiry a => Sys2Proof.Machine.execStartIntervalExpiry a s
  | .coastEnd a => Sys2Proof.Machine.execCoastEnd a s
  | .brakeEnd a => Sys2Proof.Machine.execBrakeEnd a s
  | .hallEdge ch dt => Sys2Proof.Machine.execHallEdge ch dt s
  | .stallTimerExpiry a => Sys2Proof.Machine.execStallTimerExpiry a s
  | .obstructionDetected a => Sys2Proof.Machine.execObstructionDetected a s
  | .timedDriveExpiry a => Sys2Proof.Machine.execTimedDriveExpiry a s
  | .startTimeout a => Sys2Proof.Machine.execStartTimeout a s
  | .moveAxis axis target tag => Sys2Proof.Machine.execMoveAxis axis target tag s
  | .homeAxis selector tag => Sys2Proof.Machine.execHomeAxis selector tag s
  | .stopAll => Sys2Proof.Machine.execStopAll s
  | .queryAxis axis => Sys2Proof.Machine.execQueryAxis axis s
  | .queryBudget selector => Sys2Proof.Machine.execQueryBudget selector s
  | .contactChange p closed => Sys2Proof.Machine.execContactChange p closed s
  | .debounceExpiry p => Sys2Proof.Machine.execDebounceExpiry p s
  | .switchRepeatExpiry p => Sys2Proof.Machine.execSwitchRepeatExpiry p s
  | .switchStuck p => Sys2Proof.Machine.execSwitchStuck p s
  | .memoryKeys data => Sys2Proof.Machine.execMemoryKeys data s
  | .storeWindowExpiry => Sys2Proof.Machine.execStoreWindowExpiry s
  | .profileWriteEnd => Sys2Proof.Machine.execProfileWriteEnd s
  | .keyEventLock key => Sys2Proof.Machine.execKeyEventLock key s
  | .keyEventUnlock key => Sys2Proof.Machine.execKeyEventUnlock key s
  | .keyRecallWindowExpiry => Sys2Proof.Machine.execKeyRecallWindowExpiry s
  | .vehicleState data => Sys2Proof.Machine.execVehicleState data s
  | .peerRecordStale r => Sys2Proof.Machine.execPeerRecordStale r s
  | .profileExport slot => Sys2Proof.Machine.execProfileExport slot s
  | .profileImport slot => Sys2Proof.Machine.execProfileImport slot s
  | .profileData data => Sys2Proof.Machine.execProfileData data s
  | .importTimeout => Sys2Proof.Machine.execImportTimeout s
  | .profileErase slot => Sys2Proof.Machine.execProfileErase slot s
  | .manifoldReadingChange reading => Sys2Proof.Machine.execManifoldReadingChange reading s
  | .fillLimitExpiry => Sys2Proof.Machine.execFillLimitExpiry s
  | .fillUnconfirmedTimeout => Sys2Proof.Machine.execFillUnconfirmedTimeout s
  | .measureSettleExpiry reading => Sys2Proof.Machine.execMeasureSettleExpiry reading s
  | .ventEnd c => Sys2Proof.Machine.execVentEnd c s
  | .leakTimerExpiry c => Sys2Proof.Machine.execLeakTimerExpiry c s
  | .queryCells selector => Sys2Proof.Machine.execQueryCells selector s
  | .comfortRequest data => Sys2Proof.Machine.execComfortRequest data s
  | .massageStream data => Sys2Proof.Machine.execMassageStream data s
  | .stepHoldExpiry => Sys2Proof.Machine.execStepHoldExpiry s
  | .sessionTimerExpiry => Sys2Proof.Machine.execSessionTimerExpiry s
  | .ventingTimerExpiry => Sys2Proof.Machine.execVentingTimerExpiry s
  | .streamWatchExpiry => Sys2Proof.Machine.execStreamWatchExpiry s
  | .heaterIntervalStart => Sys2Proof.Machine.execHeaterIntervalStart s
  | .heaterMeasurementDone z count => Sys2Proof.Machine.execHeaterMeasurementDone z count s
  | .heaterPwmPeriod => Sys2Proof.Machine.execHeaterPwmPeriod s
  | .stepDownExpiry z => Sys2Proof.Machine.execStepDownExpiry z s
  | .precrash data => Sys2Proof.Machine.execPrecrash data s
  | .precrashStale => Sys2Proof.Machine.execPrecrashStale s
  | .pcuHoldExpiry => Sys2Proof.Machine.execPcuHoldExpiry s
  | .postcrashRelease => Sys2Proof.Machine.execPostcrashRelease s
  | .txSent => Sys2Proof.Machine.execTxSent s
  | .txArbitrationLost => Sys2Proof.Machine.execTxArbitrationLost s
  | .txFailed => Sys2Proof.Machine.execTxFailed s
  | .linkOffExpiry => Sys2Proof.Machine.execLinkOffExpiry s
  | .statusTimerExpiry => Sys2Proof.Machine.execStatusTimerExpiry s
  | .unknownServiceRequest data => Sys2Proof.Machine.execUnknownServiceRequest data s
  | .clearFaults => Sys2Proof.Machine.execClearFaults s
  | .queryFaults selector => Sys2Proof.Machine.execQueryFaults selector s
  | .runOnTimerExpiry => Sys2Proof.Machine.execRunOnTimerExpiry s
  | .configWindowExpiry => Sys2Proof.Machine.execConfigWindowExpiry s
  | .configure variant fuse fallback concurrency runOn cushionTrim backTrim => Sys2Proof.Machine.execConfigure variant fuse fallback concurrency runOn cushionTrim backTrim s
  | .restart => Sys2Proof.Machine.execRestart s
  | .keyEvent data => Sys2Proof.Machine.execKeyEvent data s

end Sys2Proof.Machine
end

