-- ==== Sys2Proof/Machine/Step.lean ====
section
/-!
DEFINITION. One step: the command at the front of the queue, or the passing of one microsecond; and `withFetchWord`.
-/
namespace Sys2Proof.Machine

open Sys2Proof Host

/-- One step of the part. On an empty queue the part idles while the clock moves on by 1 µs (log entry 1). -/
def step (s : State) : Outcome State Fault Refusal :=
  match s.pending with
  | [] => .next { s with seat := { s.seat with now := s.seat.now + 1 } }
  | c :: rest => exec c { s with pending := rest }

/-- `s` with the command that a word spells at the front of its queue; the table gives no row any bits, so no word spells
one. -/
def State.withFetchWord (s : State) (nbits w : Nat) : State :=
  match decodeTableWord nbits w with
  | some c => { s with pending := c :: s.pending }
  | none => s

end Sys2Proof.Machine
end

