-- ==== Sys2Proof/Safety.lean ====
section
/-!
DEFINITION. What holds in every state of a safe run, in the terms the claims use, and the words the claims share.
-/
namespace Sys2Proof

/-- A frame that the link controller of station `node` takes (R176). -/
def Instr.isFrame (node : Station) : Instr → Bool
  | .peerStatus n _ => n != node
  | .energyAllowance _ | .memoryKeys _ | .keyEventLock _ | .keyEventUnlock _ | .vehicleState _ | .profileData _
  | .comfortRequest _ | .massageStream _ | .precrash _ | .keyEvent _ | .moveAxis _ _ _ | .homeAxis _ _ | .stopAll | .queryAxis _
  | .queryBudget _ | .profileExport _ | .profileImport _ | .profileErase _ | .queryCells _ | .postcrashRelease | .clearFaults
  | .queryFaults _ | .configure _ _ _ _ _ _ _ | .restart | .unknownServiceRequest _ => true
  | .supplyComparatorEvent _ | .supplyResetExit _ _ _ | .allowanceStale | .peerStatusStale _ | .startIntervalExpiry _
  | .coastEnd _ | .brakeEnd _ | .hallEdge _ _ | .stallTimerExpiry _ | .obstructionDetected _ | .timedDriveExpiry _
  | .startTimeout _ | .contactChange _ _ | .debounceExpiry _ | .switchRepeatExpiry _ | .switchStuck _ | .storeWindowExpiry
  | .profileWriteEnd | .keyRecallWindowExpiry | .peerRecordStale _ | .importTimeout | .manifoldReadingChange _
  | .fillLimitExpiry | .fillUnconfirmedTimeout | .measureSettleExpiry _ | .ventEnd _ | .leakTimerExpiry _ | .stepHoldExpiry
  | .sessionTimerExpiry | .ventingTimerExpiry | .streamWatchExpiry | .heaterIntervalStart | .heaterMeasurementDone _ _
  | .heaterPwmPeriod | .stepDownExpiry _ | .precrashStale | .pcuHoldExpiry | .txSent | .txArbitrationLost | .txFailed
  | .linkOffExpiry | .statusTimerExpiry | .runOnTimerExpiry | .configWindowExpiry => false

/-- The source of a frame whose length is not its source's (R177, 11.1). -/
def Instr.badLength (node : Station) : Instr → Option Nat
  | .precrash d => if d.length = 2 then none else some 0
  | .energyAllowance d => if d.length = 3 then none else some 1
  | .vehicleState d => if d.length = 3 then none else some 2
  | .keyEvent d => if d.length = 2 then none else some 3
  | .memoryKeys d => if d.length = 2 then none else some 4
  | .comfortRequest d => if d.length = 5 then none else some 5
  | .massageStream d => if d.length = 5 then none else some 6
  | .peerStatus n d => if n = node ∨ d.length = 8 then none else some 7
  | .unknownServiceRequest d => if d.length = 0 then some 8 else none
  | .profileData d => if d.length = 8 then none else some 9
  | _ => none

/-- Parts of the state that only some commands may change. -/
inductive Part
  | straps | band | config | switches | peers | slots | positions | latched | sensor
deriving DecidableEq, Repr

/-- The commands that may change a part of an awake part's state. A supply event may end in supply reset, and
UNKNOWN_SERVICE_REQUEST may carry any request (log entry 17). -/
def Instr.mayChange (p : Part) (c : Instr) : Bool :=
  match p, c with
  | .straps, _ => false
  | _, .supplyComparatorEvent _ => true
  | .config, .configure _ _ _ _ _ _ _ | .config, .unknownServiceRequest _ => true
  | .switches, .contactChange _ _ | .switches, .debounceExpiry _ | .switches, .switchRepeatExpiry _
  | .switches, .switchStuck _ | .switches, .restart | .switches, .unknownServiceRequest _ => true
  | .peers, .energyAllowance _ | .peers, .allowanceStale | .peers, .peerStatus _ _ | .peers, .peerStatusStale _
  | .peers, .memoryKeys _ | .peers, .vehicleState _ | .peers, .peerRecordStale _ | .peers, .comfortRequest _
  | .peers, .precrash _ | .peers, .precrashStale | .peers, .runOnTimerExpiry => true
  | .slots, .memoryKeys _ | .slots, .vehicleState _ | .slots, .keyEventLock _ | .slots, .keyEvent _
  | .slots, .profileExport _ | .slots, .profileErase _ | .slots, .profileData _ | .slots, .profileWriteEnd
  | .slots, .unknownServiceRequest _ => true
  | .positions, .hallEdge _ _ | .positions, .stallTimerExpiry _ | .positions, .configure _ _ _ _ _ _ _
  | .positions, .unknownServiceRequest _ => true
  | .latched, .clearFaults | .latched, .unknownServiceRequest _ => true
  | .sensor, .manifoldReadingChange _ | .sensor, .measureSettleExpiry _ => true
  | _, _ => false

end Sys2Proof

namespace Sys2Proof.Machine

open Sys2Proof

/-! ### Bounds that every step keeps -/

/-- The transmitter keeps its bounds: at most eight items in the event queue (R182), a tally of at most 263 that is below
256 while the link is on (R181), and no frame loaded while the link is off (R181). -/
structure Link.Bounded (l : Link) : Prop where
  queue : l.queue.length ≤ 8
  tally : l.tally ≤ 263
  on : l.offUntil = none → l.tally < 256
  off : l.offUntil.isSome → l.loaded = none

/-- The allocator keeps the law of R8, the classes of R9 and R10, and the law of R14: no claimant has two grants, two
entries, or a grant and an entry, and the queue is ordered by class. -/
structure Alloc.Sound (al : Alloc) (ceiling : Nat) : Prop where
  within : al.total ≤ ceiling
  grants : ∀ g ∈ al.grants, 0 < g.amount ∧ (g.load ≠ .pump → Cls.p3.rank ≤ g.cls.rank)
  entries : ∀ e ∈ al.queue, 0 < e.amount ∧ (e.load ≠ .pump → Cls.p3.rank ≤ e.cls.rank)
  once : (al.grants.map (·.load) ++ al.queue.map (·.load)).Nodup
  ordered : al.queue.Pairwise fun x y => y.cls.rank ≤ x.cls.rank

/-- An axis record keeps its bounds: position (R38), tally and plausible count (R43, R44), interval list (R45). -/
structure AxisRec.Bounded (a : Axis) (r : AxisRec) : Prop where
  signed : -32768 ≤ r.position ∧ r.position ≤ 32767
  travel : r.referenced → 0 ≤ r.position ∧ r.position ≤ Config.travel a
  tally : r.tally ≤ 15
  plausible : r.plausible ≤ 63
  intervals : r.intervals.length ≤ 8

/-- Levels and choices stay in the ranges the manual gives: support levels (R114), intensity (R127), stream step queue
(R137), heat levels (R153), configuration (R199). -/
structure Seat.InRange (s : Seat) : Prop where
  lumbar : s.pneu.lumbarUpper ≤ 10 ∧ s.pneu.lumbarLower ≤ 10
  bolster : s.pneu.bolster ≤ 5
  intensity : 1 ≤ s.massage.intensity ∧ s.massage.intensity ≤ 5
  stream : s.massage.queue.length ≤ 8
  heat : ∀ z, (s.zone z).level ≤ 3 ∧ ∀ l, (s.zone z).held = some l → l ≤ 3
  fuse : 10 ≤ s.power.config.fuse ∧ s.power.config.fuse ≤ 35
  fallback : s.power.config.fallback ≤ 40
  concurrency : 1 ≤ s.power.config.concurrency ∧ s.power.config.concurrency ≤ 3
  trims : ∀ z, -7 ≤ s.trim z ∧ s.trim z ≤ 7

/-- The requested duty of each zone is the duty it needs (R150). -/
def Seat.DutyKept (s : Seat) : Prop := ∀ z, (s.zone z).dutyReq = s.dutyNeeded z

/-- A RESTORE sequence is held only in RESTORING (R169). -/
def Seat.RestoreHeld (s : Seat) : Prop := ∀ q, s.motion.sequence = some q → q.kind = .restore → s.pcu.state = .restoring

/-- The hold timer runs only in HOLDING (R166, R168, R170, R171, R175). -/
def Pcu.HoldTimed (p : Pcu) : Prop := p.holdEnd.isSome → p.state = .holding

/-! ### The words of the claims -/

/-- The part is out of supply reset. -/
def State.Powered (s : State) : Prop := s.seat.band.isSome

/-- The part is out of supply reset and awake, and no SLEEP is pending. -/
structure State.Awake (s : State) : Prop where
  powered : s.seat.band.isSome
  awake : s.seat.power.mode ≠ .sleep
  rested : s.seat.power.sleepPending = false

/-- The blocks as a step leaves them: the applied heater duties have followed the effective ones (R151). -/
def Seat.trimmed (s : Seat) : Seat := (Work.start s).trimApplied.toSeat

/-- The end of a step in which the blocks come to stand as `s` with no notice left, and hand `items` to the link (R182). -/
def settled (s : Seat) (l : Link) (items : List Item) (pending : List Instr) : State :=
  ⟨s.trimmed, (l.pushAll items).load s.trimmed, pending⟩

/-- The blocks outside motion, allocator, fault table, pre-crash unit and power mode controller stand as they did. -/
structure Seat.SameOutsideMotion (s t : Seat) : Prop where
  band : t.band = s.band
  peers : t.peers = s.peers
  store : t.store = s.store
  pneu : t.pneu = s.pneu
  massage : t.massage = s.massage
  heat : t.heat = s.heat
  switches : t.switches = s.switches

/-- An axis record but for the mark that its operation has made its claim. -/
def AxisRec.shadow (r : AxisRec) : AxisRec := { r with op := r.op.map fun o => { o with claimed := true } }

/-- A part stands in `t` as it did in `s`; of the latched flags, none that was set is clear. -/
def Seat.Keeps (s t : Seat) : Part → Prop
  | .straps => t.power.node = s.power.node ∧ t.power.side = s.power.side
  | .band => t.band = s.band
  | .config => t.power.config = s.power.config
  | .switches => t.switches = s.switches
  | .peers => t.peers = s.peers
  | .slots => t.store.slots = s.store.slots
  | .positions => ∀ a, (t.axis a).position = (s.axis a).position ∧ (t.axis a).referenced = (s.axis a).referenced
  | .latched => ∀ f ∈ s.faults.latched, f ∈ t.faults.latched
  | .sensor => t.pneu.sensor = s.pneu.sensor

/-- A fault entry's flag is latched. -/
def Seat.Latched (s : Seat) (k : FaultKind) (index : Nat) : Prop := s.faults.isLatched ⟨k, index⟩ = true

end Sys2Proof.Machine
end

