-- ==== Sys2Proof/Certificates/Slice0/Obligations.lean ====
section
/-!
DEFINITION. The statements for the provers, chapter by chapter. A statement about a command's effect answers a next state.
Where no notice passes between the blocks, that state is given whole, as `settled` blocks, link and queue. Otherwise it is
the end (`finish`) of a step in which the blocks first come to stand as `w`, by the command's own rule, before the blocks
that are told of it act on the notices.
-/
open Sys2Proof Sys2Proof.Machine Host

/-! ### The machine -/

/-- A step runs the command at the front of the queue on the state with the queue's rest. -/
def Obligations.StepRunsFront : Prop :=
  ∀ (c : Instr) (s : State), step { s with pending := c :: s.pending } = exec c s

/-- Every command is answered with a next state and leaves the commands that wait as they are; with an empty queue a step
moves the clock on by 1 µs and changes nothing else (log entry 1). -/
def Obligations.EveryCommandAnswers : Prop :=
  (∀ (c : Instr) (s : State), ∃ t, exec c s = .next t ∧ t.pending = s.pending) ∧
  (∀ s : State, s.pending = [] → step s = .next { s with seat := { s.seat with now := s.seat.now + 1 } })

/-- What leaving supply reset leaves, as R22, R27, R76, R101, R122, R142, R158, R175, R178, R182, R186, R190, R194, R197
and R198 give it, with the status that is due loaded (R180, R183). -/
def Obligations.ResetValues : Prop :=
  let s := State.reset.seat
  (s.alloc.grants = [] ∧ s.alloc.queue = [] ∧ s.alloc.cushionGrant = 0 ∧ s.alloc.backGrant = 0) ∧
  (s.fuseCeiling = 250 ∧ s.fallback = 100 ∧ s.ceiling = 100 ∧ s.loadCeiling = 94 ∧ s.othersUse = 0) ∧
  (s.peers.energy.staleAt = none ∧ s.shedComfort = false ∧ s.peers.vehicle.staleAt = none ∧ s.ignition = .off ∧
    s.peers.precrash.staleAt = none ∧ s.peers.precrash.level = .none ∧ s.peers.precrash.counter = none) ∧
  (∀ a, (s.axis a).position = 0 ∧ (s.axis a).referenced = false ∧ (s.axis a).drive = .coasting ∧
    (s.axis a).phaseEnd = some 60000 ∧ (s.axis a).op = none ∧ (s.axis a).tally = 0) ∧
  (s.motion.sequence = none ∧ s.motion.admission = [] ∧ s.power.config.concurrency = 2) ∧
  (s.store.write = none ∧ s.store.storeWindow = none ∧ s.store.keyWindow = none ∧ s.store.returnPoint = none ∧
    s.store.mask = true ∧ s.store.armed = false) ∧
  (∀ c, (s.cell c).state = .venting ∧ (s.cell c).ventFull = true ∧ (s.cell c).ventEnd = some 1500000) ∧
  (s.pneu.lumbarUpper = 0 ∧ s.pneu.lumbarLower = 0 ∧ s.pneu.bolster = 0 ∧ s.pneu.manifold = .idle ∧ s.pneu.hold = .none) ∧
  (s.massage.state = .off ∧ s.massage.program = 0 ∧ s.massage.intensity = 3 ∧ s.massage.queue = []) ∧
  (∀ z, (s.zone z).level = 0 ∧ (s.zone z).held = none ∧ (s.zone z).t10 = none ∧ (s.zone z).fault = .none ∧
    (s.zone z).cutoff = false) ∧
  (s.pcu.state = .normal ∧ s.pcu.snapshot = none ∧ s.pcu.holdEnd = none) ∧
  (s.faults.latched = [] ∧ s.faults.live = []) ∧
  (s.power.mode = .runOn ∧ s.power.runOn = some 180000000 ∧ s.power.window = some 10000000 ∧
    s.power.config = ⟨0, 25, 10, 2, false, 0, 0⟩) ∧
  (State.reset.link.queue = [] ∧ State.reset.link.tally = 0 ∧ State.reset.link.offUntil = none ∧
    State.reset.link.statusDue = true ∧ State.reset.link.loaded.map (·.source) = some .status)

/-- The bounds that every step keeps hold right after reset. -/
def Obligations.ResetMeetsBounds : Prop :=
  State.reset.link.Bounded ∧ State.reset.seat.alloc.Sound State.reset.seat.loadCeiling ∧
    (∀ a, (State.reset.seat.axis a).Bounded a) ∧ State.reset.seat.InRange ∧ State.reset.seat.DutyKept ∧
    State.reset.seat.RestoreHeld ∧ State.reset.seat.pcu.HoldTimed

/-- Every step keeps the bounds of the transmitter (R181, R182). -/
def Obligations.StepKeepsLinkBounds : Prop :=
  ∀ s t : State, s.link.Bounded → step s = .next t → t.link.Bounded

/-- Every step keeps the law of R8, that the grants together stay within the load ceiling and none is held where it is 0,
with the classes of R9 and the law of R14. -/
def Obligations.StepKeepsBudgetLaw : Prop :=
  ∀ s t : State, s.seat.alloc.Sound s.seat.loadCeiling → step s = .next t →
    t.seat.alloc.Sound t.seat.loadCeiling ∧ (t.seat.loadCeiling = 0 → t.seat.alloc.grants = [])

/-- Every step keeps the bounds of every axis record (R38, R43, R44, R45). -/
def Obligations.StepKeepsAxisBounds : Prop :=
  ∀ s t : State, (∀ a, (s.seat.axis a).Bounded a) → step s = .next t → ∀ a, (t.seat.axis a).Bounded a

/-- Every step keeps levels, intensity, stream queue and configuration in their ranges (R114, R127, R137, R153, R199). -/
def Obligations.StepKeepsRanges : Prop :=
  ∀ s t : State, s.seat.InRange → step s = .next t → t.seat.InRange

/-- Every step keeps the requested duty of each zone at the duty the zone needs, whatever changes that need: level, sensor
fault, cut-off, temperature, trim, ignition, pre-crash state, band or shed_comfort (R148, R150). -/
def Obligations.StepKeepsDuty : Prop :=
  ∀ s t : State, s.seat.DutyKept → step s = .next t → t.seat.DutyKept

/-- Every step keeps a held RESTORE sequence to the pre-crash state RESTORING, and a running hold timer to HOLDING: what
leaves RESTORING ends the sequence, and what leaves HOLDING stops the timer, so that no second RESTORE sequence is made
beside one whose end the unit has still to take (R67, R163, R166, R168–R171). -/
def Obligations.StepKeepsRestoring : Prop :=
  ∀ s t : State, s.seat.RestoreHeld ∧ s.seat.pcu.HoldTimed → step s = .next t →
    t.seat.RestoreHeld ∧ t.seat.pcu.HoldTimed

/-- While the part is awake only some commands change the band, the configuration, the switch records, the peer view, the
slots, the positions or the sensor reading, or clear a latched flag; none changes the straps (R1, R6, R37, R80, R104,
R178, R186, R188, R191, R198). -/
def Obligations.OnlyTheseChange : Prop :=
  ∀ (c : Instr) (s : State) (p : Part), s.Awake → c.mayChange p = false →
    ∃ t, exec c s = .next t ∧ s.seat.Keeps t.seat p

/-- A frame taken in SLEEP wakes the part into RUN_ON, with a status due and the control interval begun, and is then
handled as in RUN_ON; so is a press that the debounce timer ends (R191, R196). That the press is taken at the later of its
deadline and the clock is log entry 2. That the status due is loaded only after the frame or press has been handled is log
entry 52. -/
def Obligations.FrameOrPressWakes : Prop :=
  (∀ (c : Instr) (s : State), s.Powered → s.seat.power.mode = .sleep → c.isFrame s.seat.power.node = true →
    exec c s = exec c s.wake ∧ s.wake.seat.power.mode = .runOn ∧
      s.wake.seat.power.runOn = some (s.seat.now + s.seat.power.config.runOnTime) ∧
      s.wake.seat.heat.intervalAt = some s.seat.now ∧ s.wake.link.statusDue = true ∧ s.wake.seat.peers = s.seat.peers) ∧
  (∀ (s : State) (p : SwitchPos) (d : Time), s.Powered → s.seat.power.mode = .sleep →
    (s.seat.switch p).debounceAt = some d → (s.seat.switch p).contact = true →
    let t : State := { s with seat := { s.seat with now := max s.seat.now d } }
    exec (.debounceExpiry p) s = exec (.debounceExpiry p) t.wake ∧ t.wake.seat.power.mode = .runOn ∧
      t.wake.seat.power.runOn = some (max s.seat.now d + s.seat.power.config.runOnTime) ∧
      t.wake.seat.heat.intervalAt = some (max s.seat.now d) ∧ t.wake.link.statusDue = true ∧
      t.wake.seat.switch p = s.seat.switch p)

/-- A frame of another length than its source's, taken by an awake part, latches FRAME_FORMAT of that source, sends its
FAULT event if the flag was clear, and changes nothing else (R177, R187). A service request of unknown code, or of another
length than its code's, is answered BAD_REQUEST and does nothing else (R185); a frame that is a good request is the
request it spells (log entry 17). The bytes are those of 11.2 (R202) as log entry 9 reads it. -/
def Obligations.BadFrames : Prop :=
  (∀ (c : Instr) (s : State) (k : Nat), s.Awake → c.badLength s.seat.power.node = some k →
    exec c s = .next (
      if s.seat.faults.isLatched ⟨.frameFormat, k⟩ then settled s.seat s.link [] s.pending
      else settled { s.seat with faults := s.seat.faults.latch ⟨.frameFormat, k⟩ } s.link
        [⟨.event .fault, [10, BitVec.ofNat 8 k] ++ word2 (s.seat.faults.latched.length + 1)⟩] s.pending)) ∧
  (∀ (s : State) (c : Byte) (p : List Byte), s.Awake →
    (∀ n ∈ ([(1, 1), (2, 1), (3, 4), (4, 2), (5, 0), (6, 1), (7, 1), (8, 1), (9, 1), (10, 0), (11, 0), (12, 1), (13, 7),
      (14, 0)] : List (Nat × Nat)), ¬(c.toNat = n.1 ∧ p.length = n.2)) →
    exec (.unknownServiceRequest (c :: p)) s = .next (settled s.seat s.link [⟨.answer c.toNat, [1, 255]⟩] s.pending)) ∧
  (∀ (s : State) (data : List Byte) (i : Instr), readRequest data = some i →
    exec (.unknownServiceRequest data) s = exec i s)

/-! ### Chapter 1: supply and budget -/

/-- The band that the table of R1 gives to a band in force and a voltage of 6.0 V or more, in mV. A change of it sets
SUPPLY_LOW live in LOW and CRITICAL and SUPPLY_HIGH live in HIGH, latching what becomes live, and removes what its bands
leave; between LOW and CRITICAL nothing new is latched (R3). -/
def Obligations.BandByR1 : Prop :=
  ∀ (s : State) (b : Band) (mv : Nat), s.seat.band = some b → s.seat.power.sleepPending = false → 6000 ≤ mv →
    let b' : Band := match b with
      | .normal => if 16000 < mv then .high else if 10500 ≤ mv then .normal else if 9000 ≤ mv then .low else .critical
      | .high => if 15500 < mv then .high else if 10500 ≤ mv then .normal else if 9000 ≤ mv then .low else .critical
      | .low => if 16000 < mv then .high else if 10800 ≤ mv then .normal else if 9000 ≤ mv then .low else .critical
      | .critical => if 16000 < mv then .high else if 10800 ≤ mv then .normal else if 9300 ≤ mv then .low else .critical
    let low := fun (x : Band) => x = .low ∨ x = .critical
    ∃ t, exec (.supplyComparatorEvent mv) s = .next t ∧ t.seat.band = some b' ∧
      (b' = b → t.seat.faults = s.seat.faults) ∧
      (b' ≠ b → (t.seat.faults.isLive ⟨.supplyLow, 0⟩ = true ↔ low b') ∧
        (t.seat.faults.isLive ⟨.supplyHigh, 0⟩ = true ↔ b' = .high) ∧
        (low b' → t.seat.Latched .supplyLow 0) ∧ (b' = .high → t.seat.Latched .supplyHigh 0) ∧
        (low b → low b' → s.seat.Latched .supplyLow 0 → t.seat.faults.latched = s.seat.faults.latched)) ∧
      t.seat.now = s.seat.now ∧ t.seat.peers = s.seat.peers ∧ t.seat.store = s.seat.store ∧
      t.seat.switches = s.seat.switches ∧ t.seat.power.config = s.seat.power.config

/-- Below 6.0 V a powered part goes into supply reset: slots are kept, but one being written is left CORRUPT without a
record; clock, straps, contacts, sensor reading and waiting commands stay; every other block takes its supply-reset
values, and every output is off (R1, R82, R197). In supply reset a command does nothing, but for SUPPLY_RESET_EXIT and the
contact pins. What stays, and that commands do nothing, is log entry 5; the cells' record in supply reset is log entry
38. -/
def Obligations.SupplyFallResets : Prop :=
  (∀ (s : State) (mv : Nat), s.Powered → mv < 6000 →
    ∃ t, exec (.supplyComparatorEvent mv) s = .next t ∧ t.seat.band = none ∧ t.seat.now = s.seat.now ∧
      (∀ i, (s.seat.slot i).state ≠ .writing → t.seat.slot i = s.seat.slot i) ∧
      (∀ i, (s.seat.slot i).state = .writing → t.seat.slot i = ⟨.corrupt, [], (s.seat.slot i).generation⟩) ∧
      t.seat.store = Store.reset t.seat.store.slots ∧
      t.seat.switches = Switches.reset s.seat.now (s.seat.switches.records.map (·.contact)) ∧
      t.seat.power = ⟨.runOn, some (s.seat.now + seconds 180), false, some (s.seat.now + seconds 10),
        ⟨0, 25, 10, 2, false, 0, 0⟩, s.seat.power.node, s.seat.power.side⟩ ∧
      t.seat.peers = Peers.reset ∧ t.seat.alloc = Alloc.reset ∧ t.seat.motion = Motion.reset s.seat.now ∧
      (t.seat.pneu.sensor = s.seat.pneu.sensor ∧ t.seat.pneu.manifold = .idle ∧ t.seat.pneu.queue = [] ∧
        t.seat.pneu.lumbarUpper = 0 ∧ t.seat.pneu.lumbarLower = 0 ∧ t.seat.pneu.bolster = 0 ∧ t.seat.pneu.hold = .none ∧
        t.seat.pneu.accepted = [] ∧ t.seat.pneu.failed = [] ∧ t.seat.pneu.levelEnded = false ∧
        ∀ c, t.seat.cell c = ⟨.holding, none, s.seat.now, none, false, none, none⟩) ∧
      t.seat.massage = Massage.reset ∧ t.seat.heat = Heat.reset s.seat.now ∧ t.seat.pcu = Pcu.reset ∧
      t.seat.faults = FaultTable.reset ∧ t.link = Link.reset s.seat.now ∧ t.pending = s.pending ∧
      (∀ a, (t.seat.axis a).duty t.seat.now = 0) ∧ (∀ z, t.seat.heaterOutput z = false)) ∧
  (∀ (c : Instr) (s : State), s.seat.band = none → (∀ n d v, c ≠ .supplyResetExit n d v) → (∀ p x, c ≠ .contactChange p x) →
    exec c s = .next s)

/-- At 6.0 V or more the part leaves supply reset with the straps read, the first band of R2 and its live condition, the
slots scanned, the default configuration, the window open, RUN_ON entered, every cell in its start-up vent and a frame
loaded (R2, R3, R77, R79, R122, R180, R197, R198). A record that fails its check in the scan is CORRUPT, with its fault
live and latched (R77, R79). That a cell has no pressure until its vent ends is log entry 38. -/
def Obligations.SupplyRiseStarts : Prop :=
  ∀ (s : State) (n : Station) (d : Side) (mv : Nat), s.seat.band = none → 6000 ≤ mv →
    ∃ t, exec (.supplyResetExit n d mv) s = .next t ∧
      t.seat.band = some (if 16000 < mv then .high else if 10500 ≤ mv then .normal else if 9000 ≤ mv then .low
        else .critical) ∧
      t.seat.power = ⟨.runOn, some (s.seat.now + seconds 180), false, some (s.seat.now + seconds 10),
        ⟨0, 25, 10, 2, false, 0, 0⟩, n, d⟩ ∧
      (∀ i, (s.seat.slot i).state = .empty → t.seat.slot i = s.seat.slot i) ∧
      (∀ i, (s.seat.slot i).state = .writing ∨ (s.seat.slot i).state = .corrupt →
        (t.seat.slot i).state = .corrupt ∧ t.seat.Latched .profileCorrupt (i.val + 1)) ∧
      (∀ i, (s.seat.slot i).state = .valid → readPasses (i.val + 1) (s.seat.slot i).bytes = true →
        t.seat.slot i = s.seat.slot i) ∧
      (∀ i, (s.seat.slot i).state = .valid → readPasses (i.val + 1) (s.seat.slot i).bytes = false →
        t.seat.slot i = { s.seat.slot i with state := .corrupt } ∧ t.seat.Latched .profileCorrupt (i.val + 1) ∧
          t.seat.faults.isLive ⟨.profileCorrupt, i.val + 1⟩ = true) ∧
      (t.seat.faults.isLive ⟨.supplyLow, 0⟩ = true ↔ mv < 10500) ∧ (mv < 10500 → t.seat.Latched .supplyLow 0) ∧
      (t.seat.faults.isLive ⟨.supplyHigh, 0⟩ = true ↔ 16000 < mv) ∧ (16000 < mv → t.seat.Latched .supplyHigh 0) ∧
      (∀ c, t.seat.cell c = ⟨.venting, none, s.seat.now, some (s.seat.now + 1500000), true, none, none⟩) ∧
      t.seat.alloc = Alloc.reset ∧ t.seat.motion = Motion.reset s.seat.now ∧ t.seat.pcu = Pcu.reset ∧ t.link.loaded.isSome

/-- An ENERGY_ALLOWANCE frame of good length sets G by the table of R5 and shed_comfort, FRESH for 2000 ms; its staleness
ends both, and sets PEER_STALE where the ignition was not OFF (R179). The allowance, the ceiling and the load ceiling are
those of R7, with U the sum of the FRESH contributions of the other stations (R6). A SEAT_STATUS of another station sets
its contribution, at most 400 and FRESH for 300 ms; its staleness ends it; a frame on the own status identifier is ignored
(R6; that it does not even wake the part is log entry 17). The clock after an expiry is log entry 2. -/
def Obligations.CeilingInputs : Prop :=
  (∀ (s : State) (h l f : Byte), s.Awake →
    ∃ t, exec (.energyAllowance [h, l, f]) s = .next t ∧
      t.seat.peers = { s.seat.peers with energy := ⟨
        (let v := (h.toNat * 256 + l.toNat) % 1024
         if v = 1023 then .unlimited else if 401 ≤ v then .value 400 else .value v),
        f.getLsbD 0, some (s.seat.now + 2000000)⟩ } ∧
      t.seat.shedComfort = f.getLsbD 0) ∧
  (∀ (s : State) (d : Time), s.Powered → s.seat.power.sleepPending = false → s.seat.peers.energy.staleAt = some d →
    ∃ t, exec .allowanceStale s = .next t ∧
      t.seat.peers = { s.seat.peers with energy := { s.seat.peers.energy with staleAt := none } } ∧
      t.seat.shedComfort = false ∧ t.seat.now = max s.seat.now d ∧
      (s.seat.ignition ≠ .off → t.seat.Latched .peerStale 1 ∧ t.seat.faults.isLive ⟨.peerStale, 1⟩ = true)) ∧
  (∀ s : Seat,
    (s.peers.energy.staleAt.isSome → s.peers.energy.allowance = .unlimited → s.allowance = s.fuseCeiling) ∧
    (∀ g, s.peers.energy.staleAt.isSome → s.peers.energy.allowance = .value g →
      (s.allowance : Int) = max 0 ((g : Int) - s.othersUse)) ∧
    (s.peers.energy.staleAt = none → (s.allowance : Int) = max 0 ((s.power.config.fallback * 10 : Int) - s.othersUse)) ∧
    (s.band = some .high → s.ceiling = 0) ∧
    (∀ b, s.band = some b → b ≠ .high → s.pcu.state = .protecting → s.ceiling = s.power.config.fuse * 10) ∧
    (∀ b, s.band = some b → b ≠ .high → s.pcu.state ≠ .protecting →
      s.ceiling = min (s.power.config.fuse * 10) s.allowance) ∧
    (s.loadCeiling : Int) = max 0 ((s.ceiling : Int) - 6) ∧
    s.othersUse = (((List.finRange 4).filter fun n => n ≠ s.power.node ∧ (s.peers.stations.get n).staleAt.isSome).map
      fun n => (s.peers.stations.get n).use).sum) ∧
  (∀ (s : State) (n : Station) (data : List Byte), n = s.seat.power.node → exec (.peerStatus n data) s = .next s) ∧
  (∀ (s : State) (n : Station) (b0 b1 b2 b3 b4 b5 b6 b7 : Byte), s.Awake → n ≠ s.seat.power.node →
    ∃ t, exec (.peerStatus n [b0, b1, b2, b3, b4, b5, b6, b7]) s = .next t ∧
      t.seat.peers = { s.seat.peers with
        stations := s.seat.peers.stations.set n.val ⟨min (b0.toNat * 256 + b1.toNat) 400, some (s.seat.now + 300000)⟩ n.isLt }) ∧
  (∀ (s : State) (n : Station) (d : Time), s.Powered → s.seat.power.sleepPending = false →
    (s.seat.peers.stations.get n).staleAt = some d →
    ∃ t, exec (.peerStatusStale n) s = .next t ∧
      t.seat.peers = { s.seat.peers with
        stations := s.seat.peers.stations.set n.val { s.seat.peers.stations.get n with staleAt := none } n.isLt } ∧
      t.seat.now = max s.seat.now d)

/-- Classes order claims: an arrival takes from no grant of its own class or a higher one, every indivisible claim is of
class P1 or higher, and every permitted one may take both heaters whole (R12). -/
def Obligations.ClassesOrderClaims : Prop :=
  (∀ (env : AllocEnv) (c : Claim) (a b : Allocating), a.Sound env.ceiling → a.tryGrant env c = some b →
    ∀ g ∈ a.grants, c.cls.rank ≤ g.cls.rank → g ∈ b.grants) ∧
  (∀ o : Source, Cls.p1.rank ≤ o.cls.rank) ∧ (∀ k : AirClass, Cls.p1.rank ≤ k.claimClass.rank) ∧
  (∀ (env : AllocEnv) (c : Claim) (a : Allocating), a.Sound env.ceiling → env.permits c.cls = true →
    c.amount ≤ (env.ceiling - a.total) + (a.cushionGrant + a.backGrant) → (a.tryGrant env c).isSome) ∧
  (∀ (env : AllocEnv) (c : Claim) (a : Allocating), a.Sound env.ceiling → env.permits c.cls = true →
    c.amount ≤ (env.ceiling - a.total) + (a.cushionGrant + a.backGrant +
      grantSum (a.grants.filter fun g => g.cls.rank < c.cls.rank)) → (a.tryGrant env c).isSome)

/-- How current is given and taken. An arrival is granted exactly when its class is permitted and free and reclaimable
current suffice; otherwise it joins the queue and nothing is revoked (R13). It takes from the back heater, the cushion
heater, the pump below its class and the motors below its class, lowest class and newest grant first, stopping when it
fits (R13); a shed takes from the heaters, the pump unless P5, motors of P3, motors of P4 and grants of P5, newest first
(R19); each revocation is told with its cause and a revoked pump claim waits again (R10, R20). A walk grants nothing of a
class below an entry it leaves waiting, leaves no first entry that would fit, and raises no heater while an entry waits
(R15, R16); the leftover goes to the cushion first (R16). A class change to the pump's own class changes nothing, and to
another keeps a grant's place (R10). -/
def Obligations.CurrentTakenInOrder : Prop :=
  (∀ (env : AllocEnv) (c : Claim) (a : Allocating), a.Sound env.ceiling → 0 < c.amount → a.holds c.load = false →
      a.queued c.load = false →
      (env.permits c.cls = true ∧ c.amount ≤ (env.ceiling - a.total) + (a.cushionGrant + a.backGrant +
          grantSum (a.grants.filter fun g => g.cls.rank < c.cls.rank)) →
        (a.arrive env c).grantOf c.load = some ⟨c.load, c.cls, c.amount, .start⟩ ∧ (a.arrive env c).total ≤ env.ceiling) ∧
      (¬(env.permits c.cls = true ∧ c.amount ≤ (env.ceiling - a.total) + (a.cushionGrant + a.backGrant +
          grantSum (a.grants.filter fun g => g.cls.rank < c.cls.rank))) →
        a.arrive env c = { a with queue := enqueueClaim c a.queue })) ∧
  (∀ (env : AllocEnv) (c : Claim) (a b : Allocating), a.Sound env.ceiling → a.tryGrant env c = some b →
    let need := a.total + c.amount - env.ceiling
    let heat := a.backGrant + a.cushionGrant
    let order := a.grants.filter (fun g => g.load == .pump && decide (g.cls.rank < c.cls.rank)) ++
      (([.p0, .p1, .p2, .p3, .p4] : List Cls).filter (·.rank < c.cls.rank)).flatMap fun k =>
        (a.grants.filter fun g => g.cls == k && g.load != .pump).reverse
    b.backGrant = a.backGrant - need ∧ b.cushionGrant = a.cushionGrant - (need - a.backGrant) ∧
    ∃ n, need ≤ heat + grantSum (order.take n) ∧ (∀ m, m < n → heat + grantSum (order.take m) < need) ∧
      b.grants = a.grants.filter (fun g => !(order.take n).contains g) ++ [⟨c.load, c.cls, c.amount, .start⟩] ∧
      b.notes = a.notes ++ (order.take n).map (fun g => .revoked g.load .budget) ++ [.granted c.load] ∧
      ∀ g ∈ order.take n, g.load = .pump → b.entryOf .pump = some ⟨.pump, g.cls, g.amount, env.now⟩) ∧
  (∀ (env : AllocEnv) (l : Nat) (cause : RevokeCause) (a : Allocating), a.Sound l →
    let b := a.shed env cause
    let need := a.total - env.ceiling
    let heat := a.backGrant + a.cushionGrant
    let motors := fun (k : Cls) => (a.grants.filter fun g => g.cls == k && g.load != .pump).reverse
    let order := a.grants.filter (fun g => g.load == .pump && g.cls != .p5) ++ motors .p3 ++ motors .p4 ++
      (a.grants.filter (·.cls == .p5)).reverse
    b.backGrant = a.backGrant - need ∧ b.cushionGrant = a.cushionGrant - (need - a.backGrant) ∧
    ∃ n, need ≤ heat + grantSum (order.take n) ∧ (∀ m, m < n → heat + grantSum (order.take m) < need) ∧
      b.grants = a.grants.filter (fun g => !(order.take n).contains g) ∧
      b.notes = a.notes ++ (order.take n).map (fun g => .revoked g.load cause) ∧
      ∀ g ∈ order.take n, g.load = .pump → b.entryOf .pump = some ⟨.pump, g.cls, g.amount, env.now⟩) ∧
  (∀ (env : AllocEnv) (a : Allocating), a.Sound env.ceiling →
    let b := a.walk env
    (∀ e ∈ b.queue, ∀ g ∈ b.grants, a.holds g.load = false → e.cls.rank ≤ g.cls.rank) ∧
    (∀ e ∈ b.queue.head?, env.permits e.cls = true → (env.ceiling - b.total) + (b.cushionGrant + b.backGrant +
      grantSum (b.grants.filter fun g => g.cls.rank < e.cls.rank)) < e.amount) ∧
    (b.queue ≠ [] → b.cushionGrant ≤ a.cushionGrant ∧ b.backGrant ≤ a.backGrant)) ∧
  (∀ (env : AllocEnv) (a : Allocating), a.cushionGrant ≤ a.cushionClaim → a.backGrant ≤ a.backClaim →
    let b := a.leftover env
    let raise := min a.cushionClaim (a.cushionGrant + (env.ceiling - a.total)) - a.cushionGrant
    (a.queue = [] → env.heatersPermitted = true → a.total ≤ env.ceiling → b = { a with
      cushionGrant := min a.cushionClaim (a.cushionGrant + (env.ceiling - a.total))
      backGrant := min a.backClaim (a.backGrant + (env.ceiling - a.total - raise)) }) ∧
    (a.queue ≠ [] ∨ env.heatersPermitted = false → b = a)) ∧
  (∀ (env : AllocEnv) (a : Allocating) (g : Grant), a.grantOf .pump = some g → a.reclass g.cls env = a) ∧
  (∀ (env : AllocEnv) (a : Allocating) (e : Claim), a.grantOf .pump = none → a.entryOf .pump = some e →
    a.reclass e.cls env = a) ∧
  (∀ (env : AllocEnv) (a : Allocating) (g : Grant) (k : Cls), a.Sound env.ceiling → a.grantOf .pump = some g →
    a.queue = [] → (a.reclass k env).grants = a.grants.map fun h => if h.load = .pump then { h with cls := k } else h)

/-- The restrictions on grants. A new grant may be of any class in band NORMAL, and of P5 alone in LOW, CRITICAL and
PROTECTING; in HIGH there is none outside PROTECTING (R17, R18). Of the grants in force a band revokes P0 to P2 in LOW,
all below P5 in CRITICAL and all in HIGH, with cause SUPPLY, and takes the heaters to 0 in each; a revoked pump claim
waits again (R17, R10). After a band change, or on leaving PROTECTING, no such grant is left. Entering PROTECTING takes
the heaters to 0, revokes the motors below P5 with cause PROTECT, and leaves the pump and the grants of P5 where they fit
and none of P5 waits (R18). That the revocations go from the oldest grant to the newest, and come before a shed on a band
change, is log entry 29. -/
def Obligations.GrantRestrictions : Prop :=
  (∀ (env : AllocEnv) (c : Cls), env.permits c = true ↔ (env.protecting = true ∧ c = .p5) ∨
    (env.protecting = false ∧ (env.band = some .normal ∨
      (c = .p5 ∧ (env.band = some .low ∨ env.band = some .critical))))) ∧
  (∀ env : AllocEnv, env.heatersPermitted = true ↔ env.protecting = false ∧ env.band = some .normal) ∧
  (∀ (env : AllocEnv) (a : Allocating) (l : Nat), a.Sound l → env.protecting = false →
    let taken : Grant → Bool := fun g => match env.band with
      | some .normal => false
      | some .low => g.cls == .p0 || g.cls == .p1 || g.cls == .p2
      | some .critical => g.cls != .p5
      | some .high => true
      | none => true
    let told := a.notes ++ (a.grants.filter taken).map fun g => GrantNotice.revoked g.load .supply
    let heatersOff := fun (b : Allocating) => env.band ≠ some .normal → b.cushionGrant = 0 ∧ b.backGrant = 0
    ((a.restrict env).grants = a.grants.filter (fun g => !taken g) ∧ (a.restrict env).notes = told ∧
      heatersOff (a.restrict env) ∧ (env.band = some .normal → a.restrict env = a) ∧
      (∀ g ∈ a.grants, g.load = .pump → taken g = true →
        (a.restrict env).entryOf .pump = some ⟨.pump, g.cls, g.amount, env.now⟩)) ∧
    (told <+: (a.bandChange env).notes ∧ heatersOff (a.bandChange env) ∧
      ∀ g ∈ (a.bandChange env).grants, taken g = false) ∧
    ((a.total ≤ env.ceiling → told <+: (a.leaveProtecting env).notes) ∧ heatersOff (a.leaveProtecting env) ∧
      ∀ g ∈ (a.leaveProtecting env).grants, taken g = false)) ∧
  (∀ (env : AllocEnv) (a : Allocating) (l : Nat), a.Sound l → env.protecting = true →
    let taken : Grant → Bool := fun g => g.load != .pump && g.cls != .p5
    let b := a.enterProtecting env
    b.cushionGrant = 0 ∧ b.backGrant = 0 ∧ (∀ g ∈ b.grants, taken g = false) ∧
      (a.notes ++ (a.grants.filter taken).map fun g => GrantNotice.revoked g.load .protect) <+: b.notes ∧
      (a.total ≤ env.ceiling → (∀ e ∈ a.queue, e.cls ≠ .p5) → b.grants = a.grants.filter fun g => !taken g))

/-! ### Chapter 2: axes and drives -/

/-- The channel map of R24; an axis without a channel is absent, and no two axes share a channel. The duty of a drive by
its form, its elapsed time and its remaining distance (R33, R34, R35, R36), with the elapsed time in whole ms (log entry
30). -/
def Obligations.AxisTables : Prop :=
  (Axis.all.map (Config.channelMap 0) = [some 0, some 1, some 2, some 3, some 4, some 5, some 6]) ∧
  (Axis.all.map (Config.channelMap 1) = [some 0, some 1, some 2, some 3, none, some 4, none]) ∧
  (Axis.all.map (Config.channelMap 2) = [some 7, some 6, some 5, some 4, some 3, some 2, some 1]) ∧
  (Axis.all.map (Config.channelMap 3) = [some 0, some 1, none, some 2, none, none, none]) ∧
  (∀ v a b, Config.channelMap v a = Config.channelMap v b → (Config.channelMap v a).isSome → a = b) ∧
  (∀ v ch a, Config.axisOn v ch = some a ↔ Config.channelMap v a = some ch) ∧
  (∀ (r : AxisRec) (o : Order) (t : Nat), r.driving = true → r.order = some o →
    let ramp := if t / 1000 < 200 then 40 + 3 * (t / 1000) / 10 else 100
    (o.form = .normal → (∀ d, r.remaining o = some d → 40 < d → r.duty (r.startedAt + t) = ramp) ∧
      (∀ d, r.remaining o = some d → d ≤ 40 → r.duty (r.startedAt + t) = min ramp 60) ∧
      (o.stop = none → r.duty (r.startedAt + t) = ramp)) ∧
    (o.form = .fast ∨ o.form = .timed → r.duty (r.startedAt + t) = 100) ∧
    (o.form = .rescue50 → r.duty (r.startedAt + t) = 50) ∧ (o.form = .corrective → r.duty (r.startedAt + t) = 40))

/-- At the end of the start interval the axis enters RUNNING, with the stall timer started and the claim lowered to the
run draw in phase RUN (R29, R9). A grant of at least that draw keeps its class and stands at exactly the run draw, where
no claim of a higher class waits. At brake end the axis starts in the new direction where its operation holds the grant it
claimed, and the run-on timer starts anew; otherwise it is IDLE, with the braked mark of an order that still waits (R32,
R28, R194). The clock after an expiry is log entry 2. That the brake of a withdrawn order counts for an opposite order
given before it ends is log entry 35. -/
def Obligations.StartAndBrakeEnd : Prop :=
  (∀ (s : State) (a : Axis) (d : Time), s.Powered → (s.seat.axis a).drive = .starting → (s.seat.axis a).phaseEnd = some d →
    s.seat.alloc.queued (.axis a) = false →
    ∃ w, exec (.startIntervalExpiry a) s = .next (finish w s.link s.pending) ∧
      w.axis a = { s.seat.axis a with
        drive := .running, phaseEnd := none, stallAt := some (max s.seat.now d + 120000) } ∧
      (∀ g ∈ w.alloc.grants, g.load = .axis a → g.phase = .run ∧ g.amount ≤ Config.runDraw a) ∧
      (∀ g, s.seat.alloc.Sound s.seat.loadCeiling → s.seat.alloc.grantOf (.axis a) = some g →
        Config.runDraw a ≤ g.amount → (∀ e ∈ s.seat.alloc.queue, e.cls.rank ≤ g.cls.rank) →
        w.alloc.grantOf (.axis a) = some ⟨.axis a, g.cls, Config.runDraw a, .run⟩)) ∧
  (∀ (s : State) (a : Axis) (d : Time), s.Powered → (s.seat.axis a).drive = .braking → (s.seat.axis a).phaseEnd = some d →
    ∃ w, exec (.brakeEnd a) s = .next (finish w s.link s.pending) ∧ w.inbox = [] ∧ w.now = max s.seat.now d ∧
      ((s.seat.axis a).order = none → w.axis a = { s.seat.axis a with
        drive := .idle, phaseEnd := none, afterDrive := false, braked := false }) ∧
      (∀ dr, (s.seat.axis a).order = some dr → s.seat.alloc.holds (.axis a) = false →
        w.axis a = { s.seat.axis a with
          drive := .idle, phaseEnd := none, afterDrive := false, braked := dr.dir != (s.seat.axis a).lastDir }) ∧
      (∀ dr o, (s.seat.axis a).order = some dr → (s.seat.axis a).op = some o → o.claimed = true →
        s.seat.alloc.holds (.axis a) = true → (s.seat.axis a).pendingFault = false →
        (w.axis a).drive = .starting ∧ (w.axis a).lastDir = dr.dir ∧ (w.axis a).phaseEnd = some (w.now + 150000) ∧
          (w.axis a).driveEdges = 0 ∧ (w.axis a).position = (s.seat.axis a).position ∧ w.power.window = none ∧
          (s.seat.power.mode = .runOn → w.power.sleepPending = false ∧
            w.power.runOn = some (w.now + s.seat.power.config.runOnTime))))

/-- At coast end the axis reports its settled position and leaves COASTING (R31, R41, R27); an order kept in the last
direction starts at once with its grant, and otherwise waits in IDLE (R31, R60). A main, corrective or return drive is
judged: DONE within tolerance, else the corrective move, else TARGET_MISSED (R62, R65). After an obstruction the axis
backs off by 30 counts within the soft stops, or ends OBSTRUCTED where that is no farther than its coast; the back-off
ends OBSTRUCTED (R46). A HOME operation orders its return to the start position less the stall position, within the soft
stops (R65). A TIMED operation ends DONE (R66). The clock after an expiry is log entry 2; the bytes of the events are
those of 11.2 (R202) as log entry 9 reads it. That a HOME operation whose axis lost its reference in its coast drives its
return all the same is log entry 32. -/
def Obligations.CoastEnds : Prop :=
  ∀ (s : State) (a : Axis) (d : Time), s.Powered → (s.seat.axis a).drive = .coasting → (s.seat.axis a).phaseEnd = some d →
    ∃ w, exec (.coastEnd a) s = .next (finish w s.link s.pending) ∧ w.now = max s.seat.now d ∧
      ((s.seat.axis a).op = none → (s.seat.axis a).pendingFault = true →
        w.axis a = { s.seat.axis a with drive := .fault, phaseEnd := none, pendingFault := false }) ∧
      ((s.seat.axis a).op = none → (s.seat.axis a).pendingFault = false → (s.seat.axis a).resetDeadband = false →
        (s.seat.axis a).order = none → w.axis a = { s.seat.axis a with drive := .idle, phaseEnd := none }) ∧
      ((s.seat.axis a).op = none → (s.seat.axis a).pendingFault = false → (s.seat.axis a).resetDeadband = true →
        w.axis a = { s.seat.axis a with
          drive := .braking, phaseEnd := some (w.now + 40000), afterDrive := false, resetDeadband := false }) ∧
      (∀ o dr, (s.seat.axis a).op = some o → (s.seat.axis a).order = some dr → dr.dir ≠ (s.seat.axis a).lastDir →
        (s.seat.axis a).pendingFault = false → (s.seat.axis a).resetDeadband = false →
        w.axis a = { s.seat.axis a with drive := .braking, phaseEnd := some (w.now + 40000), afterDrive := true }) ∧
      (∀ o dr, (s.seat.axis a).op = some o → (s.seat.axis a).order = some dr → dr.dir = (s.seat.axis a).lastDir →
        (s.seat.axis a).pendingFault = false → (s.seat.axis a).resetDeadband = false →
        (o.claimed = true → s.seat.alloc.holds (.axis a) = true → (w.axis a).drive = .starting ∧
          (w.axis a).phaseEnd = some (w.now + 150000) ∧ (w.axis a).lastDir = dr.dir ∧ (w.axis a).order = some dr ∧
          (w.axis a).driveEdges = 0 ∧ (w.axis a).position = (s.seat.axis a).position) ∧
        (s.seat.alloc.holds (.axis a) = false →
          w.axis a = { s.seat.axis a with drive := .idle, phaseEnd := none })) ∧
      (∀ o, (s.seat.axis a).op = some o → (s.seat.axis a).order = none → (s.seat.axis a).pendingFault = false →
        (s.seat.axis a).resetDeadband = false →
        let r := s.seat.axis a
        let ends := fun (c : Code) => (w.axis a).drive = .idle ∧ (w.axis a).op = none ∧
          (w.axis a).position = r.position ∧ (w.axis a).referenced = r.referenced ∧
          (o.member = false → w.out = [axisDoneItem a o.source o.kind o.tag c (w.axis a) o.corrected])
        (∀ t, o.obstructed = false → o.target = some t →
          (o.kind = .target ∧ o.state = .settling) ∨ o.state = .correcting ∨ o.state = .returning →
          (withinTolerance r.position t = true → ends .done) ∧
          (withinTolerance r.position t = false → o.corrected = true → ends .targetMissed) ∧
          (withinTolerance r.position t = false → o.corrected = false →
            (w.axis a).order = some ⟨dirToward r.position t, .corrective, some t, false⟩ ∧
              ∃ o', (w.axis a).op = some o' ∧ o'.state = .correcting ∧ o'.corrected = true)) ∧
        (o.obstructed = true → o.state = .settling →
          let stop : Int := if r.lastDir = .low then min (r.position + 30) ((Config.travel a : Int) - 8)
            else max (r.position - 30) 8
          let left := if r.lastDir = .low then stop - r.position else r.position - stop
          (left ≤ Config.coastAllowance a → ends .obstructed) ∧
          (Config.coastAllowance a < left →
            (w.axis a).order = some ⟨if r.lastDir = .low then .high else .low, .normal, some stop, false⟩ ∧
              (w.axis a).drive = .braking ∧ (w.axis a).phaseEnd = some (w.now + 40000) ∧
              ∃ o', (w.axis a).op = some o' ∧ o'.state = .returning ∧ o'.obstructed = true)) ∧
        (o.obstructed = true → o.state = .returning → ends .obstructed) ∧
        (o.obstructed = false → o.kind = .home → o.state = .settling →
          let t : Int := max 8 (min ((Config.travel a : Int) - 8) (o.startPos - o.stallPos))
          (r.position < t →
            (w.axis a).order = some ⟨.high, if t - r.position ≤ Config.coastAllowance a then .corrective else .normal,
              some t, false⟩ ∧ (r.lastDir = .low → (w.axis a).drive = .braking) ∧
              ∃ o', (w.axis a).op = some o' ∧ o'.state = .returning ∧ o'.target = some t) ∧
          (t ≤ r.position → withinTolerance r.position t = true → ends .done)) ∧
        (o.obstructed = false → o.kind = .timed → o.state = .settling → ends .done))

/-- A hall edge is counted in the last drive direction within the bounds of R38 by the present axis on its channel, and in
the edges of its drive and operation (R37). Its interval since the axis's edge before joins the interval list of eight
while driving, but for the first edge of a drive, and is judged at 1500 µs into tally and plausible count (R43, R45). It
ends a drive at its stop distance (R30): a main drive settles, a JOG ends DONE, and a corrective, return or back-off drive
coasts in its state (R59, R62, R65, R46). The sixteenth implausible edge takes the reference: HALL_IMPLAUSIBLE is latched
and live, a TARGET operation and the return of a HOME operation end REFERENCE_LOST, a JOG goes on without its stop point,
and the rest go on, the LOW drive of a HOME operation among them (R44, R63, R64); on an axis without reference the tally
returns to 0 and the fault latches again, and nothing else happens to its operation (R44). A HOME drive toward LOW of more
than travel × 5 / 4 edges ends HOME_FAILED (R48); that its axis is then unreferenced is log entry 27. On an unused
channel, or in SLEEP, only the clock moves. That an edge carries the time `dt` since the command before it and moves the
clock on by it, also there, is log entry 3's choice; R37 and R39 say that such an edge is not counted. That the loss comes
before the stop distance, and that the return of a HOME operation ends so also when it is not driving, are log entries 42
and 43; the bytes of the events are those of 11.2 (R202) as log entry 9 reads it. That AXIS_DONE says of a corrective move
that still waits that it was made is log entry 34. -/
def Obligations.HallEdgeCounts : Prop :=
  (∀ (s : State) (ch : Channel) (dt : Nat), s.Powered → s.seat.power.sleepPending = false →
    Config.axisOn s.seat.variant ch = none ∨ s.seat.power.mode = .sleep →
    exec (.hallEdge ch dt) s = .next (settled { s.seat with now := s.seat.now + dt } s.link [] s.pending)) ∧
  (∀ (s : State) (ch : Channel) (dt : Nat) (a : Axis), s.Powered → s.seat.power.mode ≠ .sleep →
    Config.axisOn s.seat.variant ch = some a →
    let r := s.seat.axis a
    let p := if r.lastDir = .high then r.position + 1 else r.position - 1
    let p' : Int := if r.referenced then max 0 (min (Config.travel a) p) else max (-32768) (min 32767 p)
    let calm := r.tally ≤ 14 ∨ (r.tally = 15 ∧ ∀ e, r.lastEdge = some e → 1500 ≤ s.seat.now + dt - e)
    ∃ w, exec (.hallEdge ch dt) s = .next (finish w s.link s.pending) ∧ w.now = s.seat.now + dt ∧
      (r.driving = false → calm →
        (w.axis a).position = p' ∧ (w.axis a).referenced = r.referenced ∧ (w.axis a).drive = r.drive ∧
          (w.axis a).op = r.op ∧ (w.axis a).order = r.order ∧ (w.axis a).lastEdge = some w.now ∧
          (∀ b, b ≠ a → w.axis b = s.seat.axis b) ∧ w.alloc = s.seat.alloc ∧ w.faults = s.seat.faults ∧ w.inbox = [] ∧
          w.out = []) ∧
      (∀ o dr, r.driving = true → calm → r.op = some o → o.kind = .target → o.state = .moving → r.order = some dr →
        ({ r with position := p' } : AxisRec).within dr (stopDistance a dr.form) = true →
        (w.axis a).position = p' ∧ (w.axis a).drive = .coasting ∧ (w.axis a).phaseEnd = some (w.now + 60000) ∧
          (w.axis a).order = none ∧ (w.axis a).op.map (·.state) = some .settling) ∧
      (∀ o dr, r.driving = true → calm → r.op = some o → r.order = some dr →
        ({ r with position := p' } : AxisRec).within dr (stopDistance a dr.form) = true →
        (o.kind = .jog → (w.axis a).op = none ∧ (w.axis a).drive = .coasting ∧ (w.axis a).position = p' ∧
          (o.member = false → w.out = [axisDoneItem a o.source .jog o.tag (if o.obstructed then .obstructed else .done)
            (w.axis a) o.corrected])) ∧
        (o.kind ≠ .jog → o.state = .correcting ∨ o.state = .returning → (w.axis a).position = p' ∧
          (w.axis a).drive = .coasting ∧ (w.axis a).phaseEnd = some (w.now + 60000) ∧ (w.axis a).order = none ∧
          (w.axis a).op.map (·.state) = some o.state ∧ (w.axis a).op.map (·.target) = some o.target ∧ w.out = [])) ∧
      (let own := r.driving = true ∨ r.drive = .coasting ∨ (r.drive = .braking ∧ r.afterDrive = true)
      (w.axis a).lastEdge = some w.now ∧ (w.axis a).driveEdges = (if own then r.driveEdges + 1 else r.driveEdges) ∧
        (w.axis a).opEdges = (if own ∧ r.op.isSome then r.opEdges + 1 else r.opEdges) ∧
        (r.lastEdge = none → (w.axis a).intervals = r.intervals ∧ (w.axis a).plausible = r.plausible ∧
          (calm → (w.axis a).tally = r.tally)) ∧
        (∀ e, r.lastEdge = some e →
          (w.axis a).intervals = (if r.driving = true ∧ r.driveEdges ≠ 0 then
            (r.intervals ++ [w.now - e]).drop (r.intervals.length + 1 - 8) else r.intervals) ∧
          (w.axis a).plausible = (if w.now - e < 1500 then r.plausible else if r.plausible = 63 then 0
            else r.plausible + 1) ∧
          (calm → (w.axis a).tally = (if w.now - e < 1500 then r.tally + 1 else if r.plausible = 63 then r.tally - 1
            else r.tally)))) ∧
      (∀ e, r.tally = 15 → r.referenced = true → r.lastEdge = some e → w.now - e < 1500 →
        (w.axis a).referenced = false ∧ (w.axis a).tally = 0 ∧ w.Latched .hallImplausible a.index.val ∧
          w.faults.isLive ⟨.hallImplausible, a.index.val⟩ = true ∧
          (∀ o, r.op = some o → o.kind = .target ∨ (o.kind = .home ∧ (o.state = .returning ∨ o.state = .correcting)) →
            (w.axis a).op = none ∧ (w.axis a).order = none ∧
            (w.axis a).drive = (if r.driving = true then .coasting else r.drive) ∧
            (o.member = false → axisDoneItem a o.source o.kind o.tag
              (if o.obstructed then .obstructed else .referenceLost) (w.axis a) o.corrected ∈ w.out)) ∧
          (∀ o, r.op = some o → o.kind = .jog → (w.axis a).op = some o ∧ (w.axis a).drive = r.drive ∧
            (w.axis a).order = r.order.map fun dr => { dr with stop := none }) ∧
          (∀ o, r.op = some o → o.kind = .timed ∨ (o.kind = .home ∧ (o.state = .waiting ∨ o.state = .settling ∨
              (o.state = .moving ∧ (r.driving = true → r.driveEdges + 1 ≤ Config.travel a * 5 / 4)))) →
            (∀ dr ∈ r.order, dr.stop = none) →
            (w.axis a).op = some o ∧ (w.axis a).drive = r.drive ∧ (w.axis a).order = r.order)) ∧
      (∀ e, r.tally = 15 → r.referenced = false → r.lastEdge = some e → w.now - e < 1500 →
        (w.axis a).referenced = false ∧ (w.axis a).tally = 0 ∧ w.Latched .hallImplausible a.index.val ∧
          w.faults.isLive ⟨.hallImplausible, a.index.val⟩ = true ∧
          ((∀ dr ∈ r.order, dr.stop = none) → (∀ o ∈ r.op, o.kind = .home → o.state = .moving → r.driving = true →
              r.driveEdges + 1 ≤ Config.travel a * 5 / 4) →
            (w.axis a).op = r.op ∧ (w.axis a).drive = r.drive ∧ (w.axis a).order = r.order ∧
            (s.seat.Latched .hallImplausible a.index.val → w.out = []))) ∧
      (∀ o, r.driving = true → calm → r.op = some o → o.kind = .home → o.state = .moving →
        (∀ dr ∈ r.order, dr.stop = none) →
        (Config.travel a * 5 / 4 < r.driveEdges + 1 → (w.axis a).op = none ∧ (w.axis a).drive = .coasting ∧
          (w.axis a).position = p' ∧ (w.axis a).referenced = false ∧ w.Latched .homeFailed a.index.val ∧
          (o.member = false → axisDoneItem a o.source o.kind o.tag
            (if o.obstructed then .obstructed else .homeFailed) (w.axis a) o.corrected ∈ w.out)) ∧
        (r.driveEdges + 1 ≤ Config.travel a * 5 / 4 → (w.axis a).op = some o ∧ (w.axis a).drive = r.drive ∧
          (w.axis a).order = r.order)))

/-- A stall is judged by its edges: none is NO_MOTION, with the axis on its way to FAULT; a HOME drive toward LOW sets the
reference at 0 (R40, R41, R48). A SWITCH JOG toward LOW with 40 or more edges in its drive sets the reference at 0, keeps
the tally, removes the live condition of HALL_IMPLAUSIBLE and ends DONE (R47, R59); a TIMED drive settles and sets none
(R66); any other drive ends STALLED, position and reference unchanged (R59, R63). The clock after an expiry is log entry
2; the bytes of the events are those of 11.2 (R202) as log entry 9 reads it. That a HOME drive which stalls with no edge
leaves a reference as it was is log entry 49. That AXIS_DONE says of a corrective move that still waits that it was made
is log entry 34. -/
def Obligations.StallJudged : Prop :=
  ∀ (s : State) (a : Axis) (d : Time) (o : Op), s.Powered → (s.seat.axis a).drive = .running →
    (s.seat.axis a).stallAt = some d → (s.seat.axis a).op = some o →
    ∃ w, exec (.stallTimerExpiry a) s = .next (finish w s.link s.pending) ∧ w.now = max s.seat.now d ∧
      (w.axis a).drive = .coasting ∧ (w.axis a).phaseEnd = some (w.now + 60000) ∧ (w.axis a).order = none ∧
      ((s.seat.axis a).opEdges = 0 → (w.axis a).pendingFault = true ∧ (w.axis a).op = none ∧
        w.Latched .noMotion a.index.val ∧ (w.axis a).position = (s.seat.axis a).position ∧
        (w.axis a).referenced = (s.seat.axis a).referenced ∧
        (o.member = false → axisDoneItem a o.source o.kind o.tag (if o.obstructed then .obstructed else .noMotion)
          (w.axis a) o.corrected ∈ w.out)) ∧
      ((s.seat.axis a).opEdges ≠ 0 → o.kind = .home → o.state = .moving → (w.axis a).position = 0 ∧
        (w.axis a).referenced = true ∧ ∃ o', (w.axis a).op = some o' ∧ o'.state = .settling ∧
          o'.stallPos = (s.seat.axis a).position) ∧
      ((s.seat.axis a).opEdges ≠ 0 → o.kind = .timed → (w.axis a).op.map (·.state) = some .settling ∧
        (w.axis a).position = (s.seat.axis a).position ∧ (w.axis a).referenced = (s.seat.axis a).referenced) ∧
      (let taken := o.kind = .jog ∧ o.source = .switch ∧ (s.seat.axis a).lastDir = .low ∧ 40 ≤ (s.seat.axis a).driveEdges
      ((s.seat.axis a).opEdges ≠ 0 → taken → (w.axis a).op = none ∧ (w.axis a).position = 0 ∧
        (w.axis a).referenced = true ∧ (w.axis a).tally = (s.seat.axis a).tally ∧
        w.faults.isLive ⟨.hallImplausible, a.index.val⟩ = false ∧
        (o.member = false → w.out = [axisDoneItem a o.source o.kind o.tag
          (if o.obstructed then .obstructed else .done) (w.axis a) o.corrected])) ∧
      ((s.seat.axis a).opEdges ≠ 0 → ¬taken → o.kind ≠ .timed → ¬(o.kind = .home ∧ o.state = .moving) →
        (w.axis a).op = none ∧ (w.axis a).position = (s.seat.axis a).position ∧
        (w.axis a).referenced = (s.seat.axis a).referenced ∧
        (o.member = false → w.out = [axisDoneItem a o.source o.kind o.tag
          (if o.obstructed then .obstructed else .stalled) (w.axis a) o.corrected])))

/-- Obstruction is found once 16 times the time since the last edge exceeds 5 times the sum of eight intervals, after the
ramp: the drive is removed and the operation marked (R45, R63); a TIMED drive ends at its time (R35, R66); an operation
whose start time runs out ends BUDGET_TIMEOUT, or OBSTRUCTED once its obstruction mark is set, and sends its AXIS_DONE
unless it serves a sequence (R56, R71). The clock after an expiry is log entry 2; the bytes of the events are those of
11.2 (R202) as log entry 9 reads it. That AXIS_DONE says of a corrective move that still waits that it was made is log
entry 34. -/
def Obligations.DriveEndsByTime : Prop :=
  (∀ (s : State) (a : Axis) (o : Op) (dr : Order) (e : Time), s.Powered → (s.seat.axis a).driving = true →
    (s.seat.axis a).op = some o → (s.seat.axis a).order = some dr → dr.obstruct = true → dr.form = .normal →
    o.source = .recall ∨ o.source = .easy ∨ o.source = .restore ∨ o.source = .service →
    (s.seat.axis a).intervals.length = 8 → (s.seat.axis a).lastEdge = some e →
    ∃ w, exec (.obstructionDetected a) s = .next (finish w s.link s.pending) ∧
      (s.seat.axis a).startedAt + 200000 ≤ w.now ∧ 5 * (s.seat.axis a).intervals.sum < 16 * (w.now - e) ∧
      (w.axis a).drive = .coasting ∧ (w.axis a).order = none ∧
      ∃ o', (w.axis a).op = some o' ∧ o'.obstructed = true ∧ o'.state = .settling) ∧
  (∀ (s : State) (a : Axis) (o : Op) (d : Time), s.Powered → (s.seat.axis a).driving = true →
    (s.seat.axis a).op = some o → (s.seat.axis a).timedEnd = some d →
    ∃ w, exec (.timedDriveExpiry a) s = .next (finish w s.link s.pending) ∧ w.now = max s.seat.now d ∧
      (w.axis a).drive = .coasting ∧ (w.axis a).order = none ∧ (w.axis a).op.map (·.state) = some .settling) ∧
  (∀ (s : State) (a : Axis) (o : Op) (d : Time), s.Powered → (s.seat.axis a).op = some o → o.startTimer = some d →
    ∃ w, exec (.startTimeout a) s = .next (finish w s.link s.pending) ∧ w.now = max s.seat.now d ∧
      (w.axis a).op = none ∧ (w.axis a).order = none ∧
      (o.member = false → w.out = [axisDoneItem a o.source o.kind o.tag
        (if o.obstructed then .obstructed else .budgetTimeout) (w.axis a) o.corrected]))

/-- What the axis timers leave alone: of the other axes everything but the mark that a waiting operation has made its
claim, and the blocks outside motion (R28, R55). -/
def Obligations.AxisTimersKeepOthers : Prop :=
  ∀ (s : State) (a : Axis) (c : Instr), s.Powered →
    c = .startIntervalExpiry a ∨ c = .coastEnd a ∨ c = .brakeEnd a ∨ c = .stallTimerExpiry a ∨ c = .obstructionDetected a ∨
      c = .timedDriveExpiry a ∨ c = .startTimeout a →
    ∃ w, exec c s = .next (finish w s.link s.pending) ∧ s.seat.SameOutsideMotion w.toSeat ∧
      ∀ b, b ≠ a → (w.axis b).shadow = (s.seat.axis b).shadow

/-! ### Chapter 3: operations -/

/-- MOVE_AXIS is tested in the order of R73; refused, it answers and changes nothing; taken, it creates a SERVICE TARGET
operation with the clamped target, which ends DONE at once within tolerance. HOME_AXIS is tested in the order of R74;
taken for ALL it creates a HOME sequence of every present axis in axis order, or, where each of them is in FAULT or held,
ends it at once; taken for one axis it creates a HOME sequence whose one member's operation orders its LOW drive (R64,
R68). The bytes are those of 11.2 (R202) as log entry 9 reads it. -/
def Obligations.MoveAndHomeAxis : Prop :=
  (∀ (s : State) (x : Byte) (target : BitVec 16) (tag : Byte), s.Awake →
      let refused := fun (r : Nat) (sub : Byte) =>
        exec (.moveAxis x target tag) s = .next (settled s.seat s.link [⟨.answer 3, [BitVec.ofNat 8 r, sub]⟩] s.pending)
      (6 < x.toNat → refused 2 255) ∧
      (∀ a : Axis, a.index.val = x.toNat →
        if (Config.channelMap s.seat.variant a) = none then refused 6 255
        else if s.seat.pcu.state = .protecting ∨ s.seat.pcu.state = .postcrash then refused 5 20
        else if (s.seat.axis a).drive = .fault ∨ (s.seat.axis a).pendingFault = true then refused 5 19
        else if (s.seat.axis a).referenced = false then refused 5 22
        else if (s.seat.axis a).op ≠ none then refused 4 21
        else
          let t : Int := max 8 (min ((Config.travel a : Int) - 8) target.toNat)
          ∃ w, exec (.moveAxis x target tag) s = .next (finish w s.link s.pending) ∧
            w.out.head? = some ⟨.answer 3, [0, 255]⟩ ∧
            ((s.seat.axis a).position - t ≤ 3 ∧ t - (s.seat.axis a).position ≤ 3 → (w.axis a).op = none ∧
              w.out = [⟨.answer 3, [0, 255]⟩, axisDoneItem a .service .target tag.toNat .done (w.axis a) false]) ∧
            (¬((s.seat.axis a).position - t ≤ 3 ∧ t - (s.seat.axis a).position ≤ 3) → w.out = [⟨.answer 3, [0, 255]⟩] ∧
              ∃ o, (w.axis a).op = some o ∧ o.source = .service ∧ o.kind = .target ∧ o.profile = .normal ∧
                o.target = some t ∧ o.tag = tag.toNat ∧ o.member = false ∧ (w.axis a).order.isSome))) ∧
  (∀ (s : State) (x tag : Byte), s.Awake →
      let refused := fun (r : Nat) (sub : Byte) =>
        exec (.homeAxis x tag) s = .next (settled s.seat s.link [⟨.answer 4, [BitVec.ofNat 8 r, sub]⟩] s.pending)
      let busyState := s.seat.pcu.state = .protecting ∨ s.seat.pcu.state = .postcrash
      (x.toNat = 255 → (busyState → refused 5 20) ∧ (¬busyState → s.seat.motion.sequence ≠ none → refused 4 21) ∧
        (¬busyState → s.seat.motion.sequence = none →
          ∃ w, exec (.homeAxis x tag) s = .next (finish w s.link s.pending) ∧ w.out.head? = some ⟨.answer 4, [0, 255]⟩ ∧
            ((∃ q, w.motion.sequence = some q ∧ q.kind = .home ∧ q.tag = tag.toNat ∧
              q.members.map (·.axis) = (Axis.all.filter fun a => (Config.channelMap s.seat.variant a).isSome) ∧
              ∀ m ∈ q.members, m.kind = .home) ∨
            ((∀ a, (Config.channelMap s.seat.variant a).isSome → (s.seat.axis a).drive = .fault ∨
                (s.seat.axis a).pendingFault = true ∨ (s.seat.axis a).op ≠ none) ∧
              ∃ i ∈ w.out, i.head = .event .sequenceDone ∧ i.content.take 2 = [3, tag])))) ∧
      (6 < x.toNat → x.toNat ≠ 255 → refused 2 255) ∧
      (∀ a : Axis, a.index.val = x.toNat →
        if Config.channelMap s.seat.variant a = none then refused 6 255
        else if busyState then refused 5 20
        else if s.seat.motion.sequence ≠ none then refused 4 21
        else if (s.seat.axis a).drive = .fault ∨ (s.seat.axis a).pendingFault = true then refused 5 19
        else if (s.seat.axis a).op ≠ none then refused 4 21
        else ∃ w, exec (.homeAxis x tag) s = .next (finish w s.link s.pending) ∧ w.out = [⟨.answer 4, [0, 255]⟩] ∧
          (w.axis a).order = some ⟨.low, .normal, none, false⟩ ∧
          (∃ q, w.motion.sequence = some q ∧ q.kind = .home ∧ q.tag = tag.toNat ∧ q.members.map (·.axis) = [a]) ∧
          ∃ o, (w.axis a).op = some o ∧ o.source = .home ∧ o.kind = .home ∧ o.state = .waiting))

/-- How a sequence runs. The next member offered is the first PENDING one, at once in a PROTECT sequence, after the end of
the last member offered in a HOME sequence, and in the others also once its axis has entered RUNNING for its first drive
(R68). An offer is tested in the order of R68: REFUSED_FAULT, REFUSED_BUSY, REFUSED_UNREFERENCED; a TARGET member within
tolerance of its clamped target ends DONE; otherwise the member is ACTIVE and its operation waits on the axis. One pass
offers until the pace forbids it; when every member has ended, the sequence ends DONE or PARTIAL, sends SEQUENCE_DONE with
its ok, failed and skipped sets, and is handed to its creator (R69, R72). The bytes are those of 11.2 (R202) as log entry
9 reads it. -/
def Obligations.SequencePacing : Prop :=
  (∀ (q : Machine.Sequence) (m : Member), q.members.find? (·.state == .pending) = some m →
    let last := (q.members.filter (·.offered)).getLast?
    q.next = if q.kind = .protect ∨ last = none ∨ (∃ l ∈ last, l.state.isEnded = true) ∨
      (q.kind ≠ .home ∧ ∃ l ∈ last, l.running = true) then some m.axis else none) ∧
  (∀ (s : State) (a : Axis) (d : Time) (o : Op) (q : Machine.Sequence), s.Powered → (s.seat.axis a).drive = .starting →
    (s.seat.axis a).phaseEnd = some d → (s.seat.axis a).op = some o → o.member = true → s.seat.motion.sequence = some q →
    ∃ w, exec (.startIntervalExpiry a) s = .next (finish w s.link s.pending) ∧
      (o.state ≠ .moving → w.motion.sequence = some q) ∧
      (o.state = .moving → Notice.sequence ∈ w.inbox ∧ w.motion.sequence = some { q with members := q.members.map fun m =>
        if m.axis = a ∧ m.state = .active then { m with running := true } else m })) ∧
  (∀ (w : Work) (q : Machine.Sequence) (m : Member), w.motion.sequence = some q → m ∈ q.members → m.state = .pending →
    (q.members.map (·.axis)).Nodup → (∀ o ∈ (w.axis m.axis).op, o.member = false) →
    let r := w.axis m.axis
    let v := w.offer m.axis
    let source := match q.kind with
      | .recall => Source.recall
      | .easy => .easy
      | .restore => .restore
      | .home => .home
      | .protect => .protect
    let stands := fun (x : MemberState) => v.motion.sequence = some { q with members := q.members.map fun n =>
      if n.axis = m.axis then { n with state := x, offered := true, running := if x = .active then n.running else false }
      else n }
    let refused := fun (c : Code) => stands (.ended c) ∧ v.motion.axes = w.motion.axes ∧ v.alloc = w.alloc ∧ v.out = w.out
    let goal := max 8 (min ((Config.travel m.axis : Int) - 8) m.target)
    let near := m.kind = .target ∧ r.position - goal ≤ 3 ∧ goal - r.position ≤ 3
    if r.drive = .fault ∨ r.pendingFault = true then refused .refusedFault
    else if ∃ o ∈ r.op, q.kind = .protect → o.source = .protect then refused .refusedBusy
    else if m.kind = .target ∧ q.kind ≠ .protect ∧ r.referenced = false then refused .refusedUnreferenced
    else (near → stands (.ended .done) ∧ (v.axis m.axis).op = none ∧ (v.axis m.axis).position = r.position) ∧
      (¬near → m.kind ≠ .jog → stands .active ∧ (v.axis m.axis).order.isSome ∧
        ∃ o, (v.axis m.axis).op = some o ∧ o.source = source ∧ o.kind = m.kind ∧ o.state = .waiting ∧ o.tag = q.tag ∧
          o.member = true ∧ o.target = (if m.kind = .target then some goal else none))) ∧
  (∀ (w : Work) (q : Machine.Sequence), w.motion.sequence = some q → (q.members.map (·.axis)).Nodup →
    (w.advanceSequence.motion.sequence.bind Sequence.next = none) ∧
    ((∀ m ∈ q.members, m.state.isEnded = true) →
      let result : Code := if ∀ m ∈ q.members, m.state = .ended .done then .done else .partly
      let ok := fun (m : Member) => m.offered && m.state == .ended .done
      let skipped := fun (m : Member) => !m.offered || m.state == .ended .refusedUnreferenced
      let failed := fun (m : Member) => !ok m && !skipped m
      let axes := fun (p : Member → Bool) => mapBytes 1 ((q.members.filter p).map (·.axis.index.val))
      w.advanceSequence.motion.sequence = none ∧ w.advanceSequence.inbox = w.inbox ++ [.sequenceDone q.kind result] ∧
      ∃ x, w.advanceSequence.out = w.out ++ [⟨.event .sequenceDone, [BitVec.ofNat 8 q.kind.code, BitVec.ofNat 8 q.tag,
          BitVec.ofNat 8 result.code] ++ axes ok ++ axes failed ++ axes skipped ++ [x]⟩] ∧
        ((q.members.filter failed) = [] → x = 255) ∧
        (∀ m ∈ (q.members.filter failed).head?, ∀ c, m.state = .ended c → x = BitVec.ofNat 8 c.code)) ∧
    (w.advanceSequence.motion.sequence ≠ none → ∃ n ∈ w.advanceSequence.motion.sequence,
      n.kind = q.kind ∧ n.tag = q.tag ∧ n.members.map (·.axis) = q.members.map (·.axis) ∧
      ∃ m ∈ n.members, m.state.isEnded = false))

/-- STOP_ALL is answered OK. Every operation outside a sequence but those of PROTECT ends STOPPED, and a held sequence of
any kind but PROTECT ends STOPPED with the operation of each ACTIVE member; PROTECT operations and a PROTECT sequence are
not touched (R75, R70), but for the mark of a claim that admission lets them make. The bytes are those of 11.2 (R202) as
log entry 9 reads it. That AXIS_DONE says of a corrective move that still waits that it was made is log entry 34. -/
def Obligations.StopAllByR75 : Prop :=
  ∀ s : State, s.Awake →
    ∃ w, exec .stopAll s = .next (finish w s.link s.pending) ∧ w.out.head? = some ⟨.answer 5, [0, 255]⟩ ∧
      (∀ a o, (s.seat.axis a).op = some o → o.member = false → o.source ≠ .protect → (w.axis a).op = none ∧
        axisDoneItem a o.source o.kind o.tag (if o.obstructed then .obstructed else .stopped) (w.axis a) o.corrected
          ∈ w.out) ∧
      (∀ q, s.seat.motion.sequence = some q → q.kind ≠ .protect → w.motion.sequence = none ∧
        (∀ m ∈ q.members, m.state = .active → (w.axis m.axis).op = none) ∧
        ∃ i ∈ w.out, i.head = .event .sequenceDone ∧
          i.content.take 3 = [BitVec.ofNat 8 q.kind.code, BitVec.ofNat 8 q.tag, 11]) ∧
      ((∀ q, s.seat.motion.sequence = some q → q.kind = .protect) → w.motion.sequence = s.seat.motion.sequence ∧
        ∀ a, (∀ o, (s.seat.axis a).op = some o → o.member = true ∨ o.source = .protect) →
          (w.axis a).shadow = (s.seat.axis a).shadow) ∧
      (∀ a, (w.axis a).position = (s.seat.axis a).position ∧ (w.axis a).referenced = (s.seat.axis a).referenced) ∧
      (s.seat.motion.sequence = none → (∀ a, (s.seat.axis a).op = none) → w.toSeat = s.seat ∧
        w.out = [⟨.answer 5, [0, 255]⟩])

/-- Queries answer from the state as it stands and change nothing (R23, R49, R121, R189). The contents of QUERY_BUDGET,
QUERY_AXIS and QUERY_CELLS are the fields that R23, R49 and R121 list, in their order. The bytes are those of 11.2 (R202)
as log entry 9 reads it; that the vent remaining is rounded up is log entry 45. Which fields form an optional group is log
entry 59. -/
def Obligations.QueriesChangeNothing : Prop :=
  (∀ (s : State) (x : Byte), s.Awake →
    (exec (.queryBudget x) s = .next (settled s.seat s.link [answerItem 1 (s.seat.queryBudget x.toNat).1 none
      (s.seat.queryBudget x.toNat).2] s.pending)) ∧
    (exec (.queryAxis x) s = .next (settled s.seat s.link [answerItem 2 (s.seat.queryAxis x.toNat).1 none
      (s.seat.queryAxis x.toNat).2] s.pending)) ∧
    (exec (.queryCells x) s = .next (settled s.seat s.link [answerItem 9 (s.seat.queryCells x.toNat).1 none
      (s.seat.queryCells x.toNat).2] s.pending)) ∧
    (exec (.queryFaults x) s = .next (settled s.seat s.link [answerItem 12 (s.seat.faults.query x.toNat).1 none
      (s.seat.faults.query x.toNat).2] s.pending)) ∧
    ((s.seat.queryAxis x.toNat).1 = if 6 < x.toNat then .badValue
      else if (Axis.ofNat? x.toNat).any fun a => (Config.channelMap s.seat.variant a).isNone then .absent else .ok) ∧
    ((s.seat.queryBudget x.toNat).1 = if 9 < x.toNat ∧ x.toNat ≠ 255 then .badValue
      else if (Axis.ofNat? x.toNat).any fun a => (Config.channelMap s.seat.variant a).isNone then .absent else .ok) ∧
    ((s.seat.queryCells x.toNat).1 = if 13 < x.toNat ∧ x.toNat ≠ 255 then .badValue
      else if s.seat.variant = 3 ∧ x.toNat < 8 then .absent else .ok) ∧
    ((s.seat.faults.query x.toNat).1 = if 13 < x.toNat ∧ x.toNat ≠ 255 then .badValue else .ok)) ∧
  (∀ s : Seat,
    let flag := fun (b : Bool) => (if b then 1 else 0 : Byte)
    let byte := fun (n : Nat) => BitVec.ofNat 8 n
    let cls := fun (c : Cls) => byte (5 - c.rank)
    (s.queryBudget 255).2 = [byte s.bandCode, flag (s.pcu.state == .protecting)] ++ word2 (10 * s.power.config.fuse) ++
      word2 (10 * s.power.config.fallback) ++
      word2 (if s.peers.energy.staleAt = none then 65535 else match s.peers.energy.allowance with
        | .unlimited => 1023
        | .value g => g) ++
      [flag s.shedComfort] ++ word2 s.othersUse ++ word2 s.allowance ++ word2 s.ceiling ++ word2 s.loadCeiling ++
      word2 s.alloc.total ++ [byte s.alloc.queue.length] ∧
    (∀ (z : Zone), (s.queryBudget (if z = .cushion then 8 else 9)).2 =
      (if s.alloc.heatClaim z = 0 then [0, 0, 0, 0] else [1, 5] ++ word2 (s.alloc.heatClaim z)) ++
      word2 (s.alloc.heatGrant z) ++ [255, if s.alloc.heatGrant z = 0 then 0 else 1, 255]) ∧
    (∀ (l : Load) (n : Nat), (l = .pump ∧ n = 7) ∨ (∃ a, l = .axis a ∧ n = a.index.val ∧
        (Config.channelMap s.variant a).isSome) →
      (∀ g, s.alloc.grantOf l = some g → (s.queryBudget n).2 = [1, cls g.cls] ++ word2 g.amount ++ word2 g.amount ++
        [if l = .pump then 255 else if g.phase = .start then 0 else 1, 1, 255]) ∧
      (∀ e, s.alloc.grantOf l = none → s.alloc.entryOf l = some e → (s.queryBudget n).2 = [1, cls e.cls] ++
        word2 e.amount ++ [0, 0, 255, 2, byte ((s.alloc.queue.takeWhile fun c => c.load != l).length + 1)]) ∧
      (s.alloc.grantOf l = none → s.alloc.entryOf l = none → (s.queryBudget n).2 = [0, 0, 0, 0, 0, 0, 255, 0, 255])) ∧
    (∀ (a : Axis) (ch : Channel), Config.channelMap s.variant a = some ch →
      let r := s.axis a
      let waits := ∃ o ∈ r.op, o.state = .waiting ∨
        ((o.state = .correcting ∨ o.state = .returning) ∧ r.order.isSome ∧ r.driving = false)
      (s.queryAxis a.index.val).2 = [byte a.index.val, byte ch.val] ++ word2 r.position ++
        [flag r.referenced, byte r.drive.code, if r.lastDir = .low then 0 else 1, byte r.tally, if waits then 1 else 0] ++
        match r.op with
        | none => [0, 0, 0, 0, 0, 0, 0]
        | some o => [1, byte o.source.code, byte o.kind.code, byte o.state.code] ++ word2 (o.target.getD 0x8000) ++
          [byte o.tag]) ∧
    (s.queryCells 255).2 = [byte s.pneu.lumbarUpper, byte s.pneu.lumbarLower, byte s.pneu.bolster,
        byte s.pneu.hold.code, match s.pneu.manifold with
          | .pumping _ => 0
          | .idle | .fillWait _ | .measuring _ _ => 1, byte s.pneu.manifold.code,
        byte s.pneu.reading] ++
      (match s.pneu.manifold.active with
        | none => [0, 0, 0, 0, 0, 0]
        | some (.fill f) => [1, 0, byte f.cls.code] ++ mapBytes 2 (f.cells.map (·.val)) ++ [byte f.target]
        | some (.measure c) => [1, 1, 1] ++ mapBytes 2 [c.val] ++ [255]) ++
      [byte s.pneu.queue.length, byte (((List.finRange 14).filter fun c => 8 ≤ c.val ∧ (s.cell c).adj.isSome).length)] ∧
    (∀ c : CellIx, s.variant ≠ 3 ∨ 8 ≤ c.val →
      let r := s.cell c
      (s.queryCells c.val).2 = [byte r.state.code, byte (r.last.getD 255)] ++
        word2 (if r.last = none then 0x8000 else ((min 255 ((s.now - r.lastAt) / 1000000) : Nat) : Int)) ++
        word2 (match r.ventEnd with
          | none => 0x8000
          | some d => (((d - s.now + 999) / 1000 : Nat) : Int)) ++
        [flag (r.state == .venting && r.ventFull)] ++
        (match r.adj with
          | none => [0, 0, 0, 0]
          | some j => [1, byte j.target, byte j.phase.code, byte j.count]) ++
        [if (∃ e ∈ s.pneu.manifold.active, c ∈ e.cells) ∨ (∃ e ∈ s.pneu.queue, c ∈ e.cells) then 1 else 0]))

/-! ### Chapter 10: switches -/

/-- A contact change starts the 20 ms debounce timer, or stops it where the contact has returned to the debounced state.
At its end the debounced state follows the contact: a release returns the position to NORMAL and stops its timers; a press
starts the hold timer and, for a lumbar or bolster position in NORMAL, the repeat timer (R191, R193). A lumbar or bolster
position repeats every 300 ms; a position held 60 s becomes STUCK, with its fault live and latched (R191, R193). The clock
after an expiry is log entry 2. -/
def Obligations.ContactsAreDebounced : Prop :=
  (∀ (s : State) (p : SwitchPos) (closed : Bool), s.Powered → s.seat.power.sleepPending = false →
    ∃ t, exec (.contactChange p closed) s = .next t ∧ (t.seat.switch p).contact = closed ∧
      (closed = (s.seat.switch p).contact → t.seat.switch p = s.seat.switch p) ∧
      (closed ≠ (s.seat.switch p).contact → closed ≠ (s.seat.switch p).pressed →
        t.seat.switch p = { s.seat.switch p with contact := closed, debounceAt := some (s.seat.now + 20000) }) ∧
      (closed ≠ (s.seat.switch p).contact → closed = (s.seat.switch p).pressed → (t.seat.switch p).debounceAt = none ∧
        (t.seat.switch p).pressed = (s.seat.switch p).pressed ∧ (t.seat.switch p).cond = (s.seat.switch p).cond) ∧
      (∀ q, q ≠ p → t.seat.switch q = s.seat.switch q) ∧ t.seat.switches.conflicts = s.seat.switches.conflicts ∧
      t.seat.motion = s.seat.motion ∧ t.seat.alloc = s.seat.alloc ∧ t.seat.store = s.seat.store ∧
      t.seat.pneu = s.seat.pneu ∧ t.seat.massage = s.seat.massage ∧ t.seat.pcu = s.seat.pcu ∧
      t.seat.faults = s.seat.faults ∧ t.seat.power = s.seat.power ∧ t.seat.peers = s.seat.peers) ∧
  (∀ (s : State) (p : SwitchPos) (d : Time), s.Awake → (s.seat.switch p).debounceAt = some d →
    ∃ t, exec (.debounceExpiry p) s = .next t ∧ t.seat.now = max s.seat.now d ∧
      (t.seat.switch p).pressed = (s.seat.switch p).contact ∧ (t.seat.switch p).debounceAt = none ∧
      ((s.seat.switch p).contact = false → (t.seat.switch p).cond = .normal ∧ (t.seat.switch p).stuckAt = none ∧
        (t.seat.switch p).repeatAt = none ∧ (t.seat.switch p).delivered = false) ∧
      ((s.seat.switch p).contact = true → (s.seat.switch p).atReset = false →
        (t.seat.switch p).stuckAt = some (t.seat.now + 60000000) ∧ (t.seat.switch p).cond = (s.seat.switch p).cond) ∧
      ((s.seat.switch p).contact = true → (s.seat.switch p).atReset = false → (s.seat.switch p).cond = .normal →
        14 ≤ p.val → (t.seat.switch p).repeatAt = some (t.seat.now + 500000)) ∧
      ((s.seat.switch p).contact = true → (s.seat.switch p).atReset = true → (t.seat.switch p).cond = .heldAtReset ∧
        (t.seat.switch p).stuckAt = (s.seat.switch p).stuckAt)) ∧
  (∀ (s : State) (p : SwitchPos) (d : Time), s.Awake → 14 ≤ p.val → (s.seat.switch p).repeatAt = some d →
    ∃ t, exec (.switchRepeatExpiry p) s = .next t ∧ t.seat.now = max s.seat.now d ∧
      t.seat.switch p = { s.seat.switch p with repeatAt := some (t.seat.now + 300000) }) ∧
  (∀ (s : State) (p : SwitchPos) (d : Time), s.Powered → (s.seat.switch p).pressed = true →
    (s.seat.switch p).stuckAt = some d →
    ∃ w, exec (.switchStuck p) s = .next (finish w s.link s.pending) ∧ w.now = max s.seat.now d ∧
      w.switch p = { s.seat.switch p with cond := .stuck, delivered := false, stuckAt := none, repeatAt := none } ∧
      w.Latched .switchStuck p.val ∧ w.faults.isLive ⟨.switchStuck, p.val⟩ = true)

/-- An axis press is withheld while its pair is in conflict, or makes the conflict by releasing the other position (R192);
PROTECTING ignores it (R57). Served, it ends a RECALL, EASY, RESTORE or HOME sequence and every SERVICE operation
ABORTED_SWITCH (R58), clears the mask, drops the return point for LONG (R57, R95, R96) and the axis's snapshot entry in
HOLDING and RESTORING (R167), and restarts the run-on timer (R194). Its JOG is refused for an absent or faulty axis or one
that PROTECT holds, ends DONE at the soft stop, or waits with its order kept through a coast or brake (R57, R59, R60). A
delivered release ends the JOG of its direction DONE (R59). The clock after an expiry is log entry 2; the bytes of the
events are those of 11.2 (R202) as log entry 9 reads it. That a JOG ordered within the coast allowance of its soft stop
keeps its form is log entry 18; that an order given during a brake starts at its end is log entry 35. That AXIS_DONE says
of a corrective move that still waits that it was made is log entry 34. -/
def Obligations.AxisSwitches : Prop :=
  ∀ (s : State) (p : SwitchPos) (a : Axis) (d : Time), s.Awake → p.val < 14 → a.index.val = p.val / 2 →
    (s.seat.switch p).debounceAt = some d →
    let r := s.seat.axis a
    let dir : Dir := if p.val % 2 = 0 then .low else .high
    let q := s.seat.switch (partner p)
    let doneCode := fun (o : Op) => if o.obstructed then Code.obstructed else .done
    ∃ w, exec (.debounceExpiry p) s = .next (finish w s.link s.pending) ∧ w.now = max s.seat.now d ∧
      ((s.seat.switch p).contact = true → (s.seat.switch p).atReset = false → (s.seat.switch p).cond = .normal →
        (s.seat.conflict a = true → w.motion = s.seat.motion ∧ w.alloc = s.seat.alloc ∧ w.store = s.seat.store ∧
          w.pcu = s.seat.pcu ∧ w.out = []) ∧
        (s.seat.conflict a = false → q.pressed = true → q.cond ≠ .heldAtReset → w.conflict a = true ∧
          (w.switch (partner p)).delivered = false ∧ w.store = s.seat.store ∧ w.pcu = s.seat.pcu ∧
          (q.delivered = false → w.motion = s.seat.motion) ∧
          (∀ o, q.delivered = true → r.op = some o → o.source = .switch → o.kind = .jog → o.dir ≠ dir → o.member = false →
            (w.axis a).op = none ∧ w.out = [axisDoneItem a .switch .jog o.tag (doneCode o) (w.axis a) o.corrected])) ∧
        (s.seat.conflict a = false → q.pressed = false ∨ q.cond = .heldAtReset → (w.switch p).delivered = true ∧
          (s.seat.power.mode = .runOn → w.power.runOn = some (w.now + s.seat.power.config.runOnTime)) ∧
          (∀ b, (w.axis b).position = (s.seat.axis b).position ∧ (w.axis b).referenced = (s.seat.axis b).referenced) ∧
          (s.seat.pcu.state = .protecting → w.motion = s.seat.motion ∧ w.alloc = s.seat.alloc ∧ w.store = s.seat.store ∧
            w.pcu = s.seat.pcu ∧ w.out = []) ∧
          (s.seat.pcu.state ≠ .protecting →
            w.store = { s.seat.store with
              mask := false, returnPoint := if a = .long then none else s.seat.store.returnPoint } ∧
            (s.seat.pcu.state = .holding ∨ s.seat.pcu.state = .restoring → ∀ k, w.pcu.snapshot = some k →
              ∀ e ∈ k.entries, e.1 ≠ a) ∧
            (∀ k, s.seat.motion.sequence = some k → k.kind ≠ .protect → w.motion.sequence = none ∧
              (∀ m ∈ k.members, m.state = .active → m.axis ≠ a → (w.axis m.axis).op = none) ∧
              ∃ i ∈ w.out, i.head = .event .sequenceDone ∧
                i.content.take 3 = [BitVec.ofNat 8 k.kind.code, BitVec.ofNat 8 k.tag, 8]) ∧
            (∀ b o, (s.seat.axis b).op = some o → o.source = .service → o.member = false →
              (b ≠ a → (w.axis b).op = none) ∧ (s.seat.motion.sequence = none →
                axisDoneItem b .service o.kind o.tag (if o.obstructed then .obstructed else .abortedSwitch) (w.axis b)
                  o.corrected ∈ w.out)) ∧
            ((∀ k, s.seat.motion.sequence = some k → k.kind = .protect) → ∀ b o, (s.seat.axis b).op = some o →
              o.source = .protect → (w.axis b).shadow = (s.seat.axis b).shadow) ∧
            (let refused := fun (c : Code) => w.out.getLast? = some (axisDoneItem a .switch .jog 0 c (w.axis a) false)
            let faulty := r.drive = .fault ∨ r.pendingFault = true
            let held := ∃ o ∈ r.op, o.source = .protect
            let stop : Int := if dir = .low then 8 else (Config.travel a : Int) - 8
            let atStop := r.referenced = true ∧ (if dir = .low then r.position ≤ stop else stop ≤ r.position)
            (Config.channelMap s.seat.variant a = none → refused .refusedAbsent) ∧
            ((Config.channelMap s.seat.variant a).isSome → faulty → refused .refusedFault) ∧
            ((Config.channelMap s.seat.variant a).isSome → ¬faulty → held →
              (∀ k, s.seat.motion.sequence = some k → k.kind = .protect) → refused .refusedBusy) ∧
            ((Config.channelMap s.seat.variant a).isSome → ¬faulty → (∀ o ∈ r.op, o.cls = .p3) →
              (atStop → (w.axis a).op = none ∧
                w.out.getLast? = some (axisDoneItem a .switch .jog 0 .done (w.axis a) false)) ∧
              (¬atStop → (w.axis a).order = some ⟨dir, if s.seat.pcu.state = .postcrash then .rescue50 else .normal,
                  if r.referenced = true then some stop else none, false⟩ ∧
                (r.drive = .coasting ∨ r.drive = .braking → (w.axis a).drive = r.drive ∧
                  (w.axis a).phaseEnd = r.phaseEnd) ∧
                (r.drive = .idle → r.op = none → r.braked = false → dir ≠ r.lastDir → (w.axis a).drive = .braking ∧
                  (w.axis a).phaseEnd = some (w.now + 40000)) ∧
                ∃ o, (w.axis a).op = some o ∧ o.source = .switch ∧ o.kind = .jog ∧ o.dir = dir ∧ o.state = .waiting ∧
                  o.profile = (if s.seat.pcu.state = .postcrash then .rescue50 else .normal) ∧ o.tag = 0 ∧
                  o.startTimer = none)))))) ∧
      ((s.seat.switch p).contact = false →
        w.conflict a = (s.seat.conflict a && q.pressed) ∧ w.store = s.seat.store ∧ w.pcu = s.seat.pcu ∧
        ((s.seat.switch p).delivered = false → w.motion = s.seat.motion ∧ w.out = []) ∧
        (∀ o, (s.seat.switch p).delivered = true → r.op = some o → o.source = .switch → o.kind = .jog → o.dir = dir →
          o.member = false → (w.axis a).op = none ∧ (r.driving = true → (w.axis a).drive = .coasting) ∧
            w.out = [axisDoneItem a .switch .jog o.tag (doneCode o) (w.axis a) o.corrected]))

/-- The levels after a lumbar or bolster press or repeat, by the table of R115; one the pre-crash state does not let be
served changes none. -/
def Obligations.SupportLevelsByR115 : Prop :=
  ∀ (s : State) (p : SwitchPos) (c : Instr), s.Awake → 14 ≤ p.val →
    (c = .debounceExpiry p ∧ (s.seat.switch p).debounceAt.isSome ∧ (s.seat.switch p).contact = true ∧
        (s.seat.switch p).cond = .normal ∧ (s.seat.switch p).atReset = false) ∨
      (c = .switchRepeatExpiry p ∧ (s.seat.switch p).repeatAt.isSome) →
    let lu := s.seat.pneu.lumbarUpper
    let ll := s.seat.pneu.lumbarLower
    let b := s.seat.pneu.bolster
    lu ≤ 10 → ll ≤ 10 → b ≤ 5 →
    ∃ w, exec c s = .next (finish w s.link s.pending) ∧
      (w.pneu.lumbarUpper, w.pneu.lumbarLower, w.pneu.bolster) =
        (if s.seat.pcu.state = .protecting then (lu, ll, b)
         else if p = 14 then (min 10 (lu + 1), min 10 (ll + 1), b)
         else if p = 15 then (lu - 1, ll - 1, b)
         else if p = 16 then (min 10 (lu + 1), ll - 1, b)
         else if p = 17 then (lu - 1, min 10 (ll + 1), b)
         else if s.seat.pcu.state = .holding ∨ s.seat.pcu.state = .postcrash then (lu, ll, b)
         else if p = 18 then (lu, ll, min 5 (b + 1)) else (lu, ll, b - 1))

/-! ### Chapter 4: the profile store -/

/-- A MEMORY_KEYS frame of the other side, or of none, does nothing; one of the own side keeps its buttons (R84, R177). A
SET edge clears the mask and opens the store window for 5 s or closes it (R84, R85). An M edge counts only where exactly
one M button is pressed in its frame; with two or three of them pressed, or with no edge, the frame only keeps its
buttons, and acts on a SET edge all the same; a frame that carries a SET edge and a taken M edge is handled as though SET
had been pressed just before it (R84). The edge of M1, M2 or M3 in the open store window is a store of its slot (R86,
R87): refused by the first test that applies, or a 25 ms write of the seat's record under the advanced generation, with
the window closed (R80, R81). That record keeps the present and referenced axes with their positions, the set levels and
the preferences, in 26 bytes (R78). The bytes are those of 11.2 (R202) as log entry 9 reads it. -/
def Obligations.ButtonStore : Prop :=
  let kept := fun (s : State) (b : Byte) => ({ s.seat with
    peers := { s.seat.peers with memoryKeysUntil := some (s.seat.now + 1000000) }
    faults := s.seat.faults.clearLive ⟨.peerStale, 4⟩
    store := { s.seat.store with buttons := ⟨b.getLsbD 0, b.getLsbD 1, b.getLsbD 2, b.getLsbD 3⟩ } } : Seat)
  let before := fun (s : State) => [s.seat.store.buttons.m1, s.seat.store.buttons.m2, s.seat.store.buttons.m3]
  let alone := fun (b : Byte) (k : Fin 3) => ∀ j : Fin 3, b.getLsbD (j.val + 1) = decide (j = k)
  let setEdge := fun (s : State) (b : Byte) => b.getLsbD 0 = true ∧ s.seat.store.buttons.set = false
  let afterSet := fun (s : State) (p : Store) => { p with
    mask := false
    storeWindow := if s.seat.store.storeWindow.isSome then none else some (s.seat.now + 5000000) }
  (∀ (s : State) (x b : Byte), s.Awake → doorSide x.toNat ≠ some s.seat.power.side →
    exec (.memoryKeys [x, b]) s = .next (settled s.seat s.link [] s.pending)) ∧
  (∀ (s : State) (x b : Byte), s.Awake → doorSide x.toNat = some s.seat.power.side →
    (∀ k : Fin 3, alone b k → (before s)[k.val]? = some true) →
    (¬setEdge s b → exec (.memoryKeys [x, b]) s = .next (settled (kept s b) s.link [] s.pending)) ∧
    (setEdge s b → exec (.memoryKeys [x, b]) s = .next (settled { kept s b with
      store := afterSet s (kept s b).store } s.link [] s.pending))) ∧
  (∀ (s : State) (x b : Byte) (k : Fin 3), s.Awake → doorSide x.toNat = some s.seat.power.side → alone b k →
    (before s)[k.val]? = some false → setEdge s b →
    exec (.memoryKeys [x, b]) s = exec (.memoryKeys [x, b]) { s with seat := { s.seat with
      store := afterSet s { s.seat.store with buttons := { s.seat.store.buttons with set := true } } } }) ∧
  (∀ (s : State) (x b : Byte) (k : Fin 3), s.Awake → doorSide x.toNat = some s.seat.power.side → alone b k →
    (before s)[k.val]? = some false → ¬setEdge s b → s.seat.store.storeWindow.isSome →
    let i : Fin 7 := ⟨k.val, by omega⟩
    let taken : Seat := { kept s b with store := { (kept s b).store with mask := false } }
    let refused := fun (r : Byte) => exec (.memoryKeys [x, b]) s =
      .next (settled taken s.link [⟨.event .profileEvent, [0, BitVec.ofNat 8 (k.val + 1), r, 0, 0]⟩] s.pending)
    if s.seat.pcu.state ≠ .normal then refused 5
    else if ∃ a ∈ Axis.all, (s.seat.axis a).op.isSome ∨ (s.seat.axis a).resting = false then refused 4
    else if s.seat.store.write.isSome then refused 2
    else
      let g := ((s.seat.slot i).generation + 1) % 65536
      let record := (s.seat.buildRecord i 0 s.seat.massage.preference s.seat.heat.preference).withCheck
      exec (.memoryKeys [x, b]) s = .next (settled { taken with
          store := { taken.store with
            storeWindow := none, slots := s.seat.store.slots.set i.val ⟨.writing, [], g⟩ i.isLt
            write := some ⟨i, .store, record, s.seat.now + 25000⟩ } } s.link [] s.pending)) ∧
  (∀ (s : Seat) (i : Fin 7) (source : Nat) (m h : Option (Nat × Nat)),
    let r := s.buildRecord i source m h
    r.bytes.length = 26 ∧ r.withCheck.length = 28 ∧ r.version = 1 ∧ r.slot = i.val + 1 ∧ r.source = source ∧
      r.generation = ((s.slot i).generation + 1) % 65536 ∧ r.lumbarUpper = s.pneu.lumbarUpper ∧
      r.lumbarLower = s.pneu.lumbarLower ∧ r.bolster = s.pneu.bolster ∧ r.massage = m ∧ r.heat = h ∧
      (∀ a, r.presence.getLsbD a.index.val =
        ((Config.channelMap s.variant a).isSome && (s.axis a).referenced)) ∧
      (∀ a, (Config.channelMap s.variant a).isSome → (s.axis a).referenced = true →
        r.position a = (s.axis a).position.toNat))

/-- The edge of M1, M2 or M3, the only M button pressed in its frame, stands for slot B1, B2 or B3 (R84, R88). For the
slot of the held RECALL sequence, it ends that sequence ABORTED_BUTTON and does nothing more (R88). Otherwise it is a
recall request: refused by the first row of R89 that applies, it changes nothing and leaves a held sequence running; a
record that fails its check makes its slot CORRUPT, with its fault live and latched, and is refused CORRUPT (R79). Taken,
it supersedes a held RECALL, EASY, RESTORE or HOME sequence, and is reported SLOT_BUSY where PROTECT holds one (R67, R90);
it leads the pre-crash unit from HOLDING or RESTORING to NORMAL, which PCU_STATE reports with cause RECALL (R168, R174);
it sets the levels of the record, discards the return point and closes the key-recall window; it asks for a RECALL
sequence of the stored axes that are present, in axis order, hands the heat preference on as level requests and the
massage preference as a setting of program and intensity, with the start of a session or a restart of its timer (R90,
R140, R153). The bytes are those of 11.2 (R202) as log entry 9 reads it. -/
def Obligations.RecallByR89 : Prop :=
  ∀ (s : State) (x y : Byte) (k : Fin 3), s.Awake → doorSide x.toNat = some s.seat.power.side →
    (∀ j : Fin 3, y.getLsbD (j.val + 1) = decide (j = k)) →
    [s.seat.store.buttons.m1, s.seat.store.buttons.m2, s.seat.store.buttons.m3][k.val]? = some false →
    y.getLsbD 0 = false ∨ s.seat.store.buttons.set = true → s.seat.store.storeWindow = none →
    let i : Fin 7 := ⟨k.val, by omega⟩
    let code := k.val + 1
    let codeByte : Byte := BitVec.ofNat 8 code
    let taken : Seat := { s.seat with
      peers := { s.seat.peers with memoryKeysUntil := some (s.seat.now + 1000000) }
      faults := s.seat.faults.clearLive ⟨.peerStale, 4⟩
      store := { s.seat.store with buttons := ⟨y.getLsbD 0, y.getLsbD 1, y.getLsbD 2, y.getLsbD 3⟩, mask := false } }
    let refused := fun (r : Byte) =>
      exec (.memoryKeys [x, y]) s = .next (settled taken s.link [⟨.event .profileEvent, [2, codeByte, r, 0, 0]⟩] s.pending)
    let held := fun (k : SeqKind) => ∃ q ∈ s.seat.motion.sequence, q.kind = k
    if ∃ q ∈ s.seat.motion.sequence, q.kind = .recall ∧ q.tag = code then
      ∃ w, exec (.memoryKeys [x, y]) s = .next (finish w s.link s.pending) ∧ w.motion.sequence = none ∧
        w.store = taken.store ∧ w.pneu = s.seat.pneu ∧ w.massage = s.seat.massage ∧ w.pcu = s.seat.pcu ∧
        (∀ q ∈ s.seat.motion.sequence, ∀ m ∈ q.members, m.state = .active → (w.axis m.axis).op = none) ∧
        ∃ i ∈ w.out, i.head = .event .sequenceDone ∧ i.content.take 3 = [0, codeByte, 9]
    else if s.seat.pcu.state = .protecting ∨ s.seat.pcu.state = .postcrash then refused 5
    else if s.seat.peers.vehicle.staleAt = none ∨ ¬(∃ v ∈ s.seat.peers.vehicle.fields.speed, v ≤ 5) then refused 6
    else ((s.seat.slot i).state = .writing → refused 3) ∧ ((s.seat.slot i).state = .empty → refused 7) ∧
      ((s.seat.slot i).state = .corrupt → refused 8) ∧
      ((s.seat.slot i).state = .valid → readPasses code (s.seat.slot i).bytes = false →
        ∃ w, exec (.memoryKeys [x, y]) s = .next (finish w s.link s.pending) ∧ w.inbox = [] ∧
          w.store = { taken.store with slots := s.seat.store.slots.set i.val { s.seat.slot i with state := .corrupt } i.isLt } ∧
          w.Latched .profileCorrupt code ∧ w.faults.isLive ⟨.profileCorrupt, code⟩ = true ∧ w.motion = s.seat.motion ∧
          w.pneu = s.seat.pneu ∧ w.pcu = s.seat.pcu ∧ ⟨.event .profileEvent, [2, codeByte, 8, 0, 0]⟩ ∈ w.out) ∧
      ((s.seat.slot i).state = .valid → readPasses code (s.seat.slot i).bytes = true →
      let p := Profile.ofBytes (s.seat.slot i).bytes
      ∃ w, exec (.memoryKeys [x, y]) s = .next (finish w s.link s.pending) ∧
        (held .protect → w.motion.sequence = s.seat.motion.sequence ∧ w.store = taken.store ∧
          ⟨.event .profileEvent, [2, codeByte, 3, 0, 0]⟩ ∈ w.out) ∧
        (∀ q ∈ s.seat.motion.sequence, q.kind ≠ .protect → ∃ i ∈ w.out, i.head = .event .sequenceDone ∧
          i.content.take 3 = [BitVec.ofNat 8 q.kind.code, BitVec.ofNat 8 q.tag, 7]) ∧
        (¬held .protect → w.store.returnPoint = none ∧
        w.store.keyWindow = none ∧ w.pneu.lumbarUpper = min p.lumbarUpper 10 ∧
        w.pneu.lumbarLower = min p.lumbarLower 10 ∧ w.pneu.bolster = min p.bolster 5 ∧
        (w.pcu.state = .normal ∧ (s.seat.pcu.state ≠ .normal → w.pcu.snapshot = none)) ∧
        (s.seat.pcu.state ≠ .normal → ∃ e ∈ w.out, e.head = .event .pcuState ∧
          e.content.take 4 = [0, BitVec.ofNat 8 s.seat.pcu.state.code, 5, 0]) ∧
        ((∃ q, w.motion.sequence = some q ∧ q.kind = .recall ∧ q.tag = code ∧ q.members.map (fun m => (m.axis, m.target)) =
            (Axis.all.filter fun a => p.presence.getLsbD a.index.val &&
              (Config.channelMap s.seat.variant a).isSome).map fun a => (a, (p.position a : Int))) ∨
          (w.motion.sequence = none ∧ ∃ i ∈ w.out, i.head = .event .sequenceDone ∧ i.content.take 2 = [0, codeByte])) ∧
        (∀ c b, p.heat = some (c, b) →
          (s.seat.ignition = .off → (w.zone .cushion).held = some (min c 3) ∧ (w.zone .back).held = some (min b 3) ∧
            ∀ z, (w.zone z).level = (s.seat.zone z).level) ∧
          (s.seat.ignition ≠ .off → (w.zone .cushion).level = min c 3 ∧ (w.zone .back).level = min b 3)) ∧
        (p.heat = none → ∀ z, (w.zone z).level = (s.seat.zone z).level ∧ (w.zone z).held = (s.seat.zone z).held) ∧
        (p.massage = none → s.seat.pcu.state = .normal → w.massage = s.seat.massage) ∧
        (∀ g i, p.massage = some (g, i) → s.seat.pcu.state = .normal → w.massage.intensity = max 1 (min 5 i) ∧
          (s.seat.massage.state = .running ∨ s.seat.massage.state = .paused →
            w.massage.sessionEnd = some (s.seat.now + 900000000) ∧ w.massage.state = s.seat.massage.state ∧
            (g ≤ 4 ∨ g = 7 → w.massage.pendingProgram = if g = s.seat.massage.program then none else some g)) ∧
          (s.seat.massage.state = .off ∨ s.seat.massage.state = .venting → s.seat.variant ≠ 3 →
            s.seat.ignition ≠ .off → s.seat.shedComfort = false → w.massage.state = .running ∧
            w.massage.sessionEnd = some (s.seat.now + 900000000) ∧ (g ≤ 4 ∨ g = 7 → w.massage.program = g)) ∧
          (s.seat.massage.state = .off ∨ s.seat.massage.state = .venting → s.seat.variant = 3 ∨
            s.seat.ignition = .off ∨ s.seat.shedComfort = true → w.massage.state = .off))))

/-- The timers of the profile store: the store window and the key-recall window close; an import assembly closes with
IMPORT_TIMEOUT (R85, R92, R98); a write ends with its slot VALID with the bytes written, or EMPTY for an erase, the live
condition of PROFILE_CORRUPT removed and PROFILE_EVENT sent (R79, R81, R83). The clock after an expiry is log entry 2. The
bytes are those of 11.2 (R202) as log entry 9 reads it. -/
def Obligations.StoreTimers : Prop :=
  (∀ (s : State) (d : Time), s.Powered → s.seat.power.sleepPending = false → s.seat.store.storeWindow = some d →
    exec .storeWindowExpiry s = .next (settled { s.seat with
      now := max s.seat.now d, store := { s.seat.store with storeWindow := none } } s.link [] s.pending)) ∧
  (∀ (s : State) (k : KeyWindow), s.Powered → s.seat.power.sleepPending = false → s.seat.store.keyWindow = some k →
    exec .keyRecallWindowExpiry s = .next (settled { s.seat with
      now := max s.seat.now k.closesAt, store := { s.seat.store with keyWindow := none } } s.link [] s.pending)) ∧
  (∀ (s : State) (m : Assembly), s.Powered → s.seat.power.sleepPending = false → s.seat.store.assembly = some m →
    exec .importTimeout s = .next (settled { s.seat with
      now := max s.seat.now m.closesAt, store := { s.seat.store with assembly := none } } s.link
      [⟨.event .profileEvent, [7, BitVec.ofNat 8 (m.slot.val + 1), 11, 0, 0]⟩] s.pending)) ∧
  (∀ (s : State) (x : Write), s.Powered → s.seat.power.sleepPending = false → s.seat.store.write = some x →
    let g := (s.seat.slot x.slot).generation
    exec .profileWriteEnd s = .next (settled { s.seat with
      now := max s.seat.now x.endsAt
      store := { s.seat.store with
        write := none
        slots := s.seat.store.slots.set x.slot.val ⟨if x.action = .erase then .empty else .valid, x.bytes, g⟩ x.slot.isLt }
      faults := s.seat.faults.clearLive ⟨.profileCorrupt, x.slot.val + 1⟩ } s.link
      [⟨.event .profileEvent, [BitVec.ofNat 8 x.action.code, BitVec.ofNat 8 (x.slot.val + 1),
        if x.action = .importing then 1 else 0] ++ word2 g⟩] s.pending))

/-- The model's reading of KEY_EVENT, whose rules in 4.6 are withdrawn (log entry 25): an UNLOCK opens the key-recall
window for 30 s; a LOCK closes it and writes the key's slot from the comfort copy where ignition, pre-crash state, motion
and store allow, and is refused STATE, MOVING or STORE_BUSY otherwise; any other kind or key number does nothing (R91,
R92, 4.6). The bytes are those of 11.2 (R202) as log entry 9 reads it. -/
def Obligations.KeyEvents : Prop :=
  (∀ (s : State) (k : Byte), s.Awake → (h : k.toNat < 4) →
    exec (.keyEventUnlock k) s = .next (settled { s.seat with
      store := { s.seat.store with keyWindow := some ⟨⟨k.toNat, h⟩, s.seat.now + 30000000⟩ } } s.link [] s.pending)) ∧
  (∀ (s : State) (k : Byte), s.Awake → (h : k.toNat < 4) → s.seat.ignition = .off → s.seat.pcu.state = .normal →
    s.seat.motionQuiet = true → s.seat.store.write = none →
    let i : Fin 7 := ⟨k.toNat + 3, by omega⟩
    let copy := s.seat.store.comfortCopy
    exec (.keyEventLock k) s = .next (settled { s.seat with
      store := { s.seat.store with
        keyWindow := none, slots := s.seat.store.slots.set i.val ⟨.writing, [], ((s.seat.slot i).generation + 1) % 65536⟩ i.isLt
        write := some ⟨i, .keyStore,
          (s.seat.buildRecord i 1 (copy.bind (·.massage)) (copy.bind (·.heat))).withCheck, s.seat.now + 25000⟩ } }
      s.link [] s.pending)) ∧
  (∀ (s : State) (k : Byte), s.Awake → (h : k.toNat < 4) →
    let refused := fun (r : Byte) =>
      exec (.keyEventLock k) s = .next (settled { s.seat with store := { s.seat.store with keyWindow := none } } s.link
        [⟨.event .profileEvent, [1, k + 4, r, 0, 0]⟩] s.pending)
    (s.seat.ignition ≠ .off ∨ s.seat.pcu.state ≠ .normal → refused 5) ∧
    (s.seat.ignition = .off → s.seat.pcu.state = .normal → s.seat.motionQuiet = false → refused 4) ∧
    (s.seat.ignition = .off → s.seat.pcu.state = .normal → s.seat.motionQuiet = true → s.seat.store.write.isSome →
      refused 2)) ∧
  (∀ (s : State) (k : Byte), exec (.keyEvent [1, k]) s = exec (.keyEventLock k) s ∧
    exec (.keyEvent [2, k]) s = exec (.keyEventUnlock k) s) ∧
  (∀ (s : State) (x k : Byte), s.Awake → 4 ≤ k.toNat ∨ (x ≠ 1 ∧ x ≠ 2) →
    exec (.keyEvent [x, k]) s = .next (settled s.seat s.link [] s.pending))

/-- VEHICLE_STATE replaces its record for 500 ms and moves the power mode between ACTIVE and RUN_ON; the staleness of a
record leaves its stale values, and sets PEER_STALE of its source where the ignition was not OFF (R178, R179, R194, R201).
A VEHICLE_STATE above 5 km/h or of unknown speed, or its staleness, ends a held RECALL or EASY sequence ABORTED_SPEED
(R91). The clock after an expiry is log entry 2. The bytes are those of 11.2 (R202) as log entry 9 reads it. -/
def Obligations.VehicleAndStaleness : Prop :=
  (∀ (s : State) (i v d : Byte), s.Awake →
    ∃ t, exec (.vehicleState [i, v, d]) s = .next t ∧
      t.seat.peers = { s.seat.peers with vehicle := ⟨⟨if i = 1 then .acc else if i = 2 then .run else .off,
        if v = 255 then none else some v.toNat, d.getLsbD 0, d.getLsbD 1⟩, some (s.seat.now + 500000)⟩ } ∧
      (t.seat.power.mode = if i = 1 ∨ i = 2 then .active else .runOn)) ∧
  (∀ (s : State) (d : Time), s.Awake → s.seat.peers.vehicle.staleAt = some d →
    ∃ t, exec (.peerRecordStale .vehicleState) s = .next t ∧ t.seat.now = max s.seat.now d ∧
      t.seat.peers = { s.seat.peers with vehicle := ⟨⟨.off, none, false, false⟩, none⟩ } ∧ t.seat.power.mode = .runOn ∧
      (s.seat.ignition ≠ .off → t.seat.Latched .peerStale 2 ∧ t.seat.faults.isLive ⟨.peerStale, 2⟩ = true)) ∧
  (∀ (s : State) (d : Time), s.Awake → s.seat.peers.memoryKeysUntil = some d →
    ∃ t, exec (.peerRecordStale .memoryKeys) s = .next t ∧ t.seat.now = max s.seat.now d ∧
      t.seat.peers = { s.seat.peers with memoryKeysUntil := none } ∧
      t.seat.store = { s.seat.store with buttons := ⟨false, false, false, false⟩ } ∧
      (s.seat.ignition = .off → t.seat.faults = s.seat.faults) ∧
      (s.seat.ignition ≠ .off → t.seat.Latched .peerStale 4 ∧ t.seat.faults.isLive ⟨.peerStale, 4⟩ = true)) ∧
  (∀ (s : State) (d : Time), s.Awake → s.seat.peers.comfort.staleAt = some d →
    ∃ t, exec (.peerRecordStale .comfortRequest) s = .next t ∧ t.seat.now = max s.seat.now d ∧
      t.seat.peers = { s.seat.peers with comfort := { s.seat.peers.comfort with staleAt := none } } ∧
      t.seat.massage = s.seat.massage ∧ (s.seat.ignition = .off → t.seat.faults = s.seat.faults) ∧
      (s.seat.ignition ≠ .off → t.seat.Latched .peerStale 5 ∧ t.seat.faults.isLive ⟨.peerStale, 5⟩ = true)) ∧
  (∀ (s : State) (c : Instr) (i v x : Byte) (d : Time) (q : Machine.Sequence), s.Awake →
    (c = .vehicleState [i, v, x] ∧ 5 < v.toNat) ∨
      (c = .peerRecordStale .vehicleState ∧ s.seat.peers.vehicle.staleAt = some d) →
    s.seat.motion.sequence = some q → q.kind = .recall ∨ q.kind = .easy →
    ∃ w, exec c s = .next (finish w s.link s.pending) ∧ w.motion.sequence = none ∧
      (∀ m ∈ q.members, m.state = .active → (w.axis m.axis).op = none) ∧
      ∃ e ∈ w.out, e.head = .event .sequenceDone ∧
        e.content.take 3 = [BitVec.ofNat 8 q.kind.code, BitVec.ofNat 8 q.tag, 10])

/-- The change to ignition OFF, by a frame or by the staleness of VEHICLE_STATE, arms easy exit and takes the comfort copy
(R91, R93). An opening edge of the driver's door while it is armed disarms it and is tested in the order of R93; a refused
exit discards the return point (R95); taken, it records the LONG position as the return point and asks for an EASY
sequence of LONG to max(8, position − 300). The change to ACC or RUN discards the return point, whether the entry is taken
or refused in the order of R94; taken, it asks for an EASY sequence of LONG to it (R94, R95). A held sequence is
superseded by a sequence asked for, but for one of PROTECT, which has it refused STATE (R67, R93, R94). The opening edge
in an open key-recall window closes it, disarms easy exit, and is a recall request of the slot of its key, refused MASKED
while the mask is set and else tested and taken as R89 and R90 give (R92). The bytes are those of 11.2 (R202) as log entry
9 reads it. That the ignition is taken before the door is log entry 19. -/
def Obligations.EasyExitEntry : Prop :=
  (∀ (s : State) (i v x : Byte), s.Awake → s.seat.store.keyWindow = none →
    let on := i = 1 ∨ i = 2
    let opens := if s.seat.power.side = .left then x.getLsbD 0 && !s.seat.peers.vehicle.fields.leftOpen
      else x.getLsbD 1 && !s.seat.peers.vehicle.fields.rightOpen
    let r := s.seat.axis .long
    let barred := s.seat.pcu.state = .protecting ∨ s.seat.pcu.state = .postcrash
    let superseded := fun (q : Machine.Sequence) => q.kind ≠ .protect
    let busy := ∃ q ∈ s.seat.motion.sequence, q.kind = .protect
    let free := (Config.channelMap s.seat.variant .long).isSome ∧ r.referenced = true ∧ r.drive ≠ .fault ∧
      r.pendingFault = false ∧ (r.op = none ∨ ∃ q ∈ s.seat.motion.sequence, superseded q ∧ .long ∈ q.activeAxes)
    ∃ w, exec (.vehicleState [i, v, x]) s = .next (finish w s.link s.pending) ∧
      (let still := v.toNat ≤ 5 ∨ s.seat.motion.sequence = none → w.motion = s.seat.motion
      let refused := fun (action reason : Byte) =>
        w.out.head? = some ⟨.event .profileEvent, [action, 255, reason, 0, 0]⟩ ∧ still
      let asked := fun (t : Int) =>
        let goal := max 8 (min ((Config.travel .long : Int) - 8) t)
        (∀ q ∈ s.seat.motion.sequence, (∀ a ∈ q.activeAxes, a ≠ .long → (w.axis a).op = none) ∧ ∃ e ∈ w.out,
          e.head = .event .sequenceDone ∧ e.content.take 3 = [BitVec.ofNat 8 q.kind.code, BitVec.ofNat 8 q.tag, 7]) ∧
        (free → ¬(r.position - goal ≤ 3 ∧ goal - r.position ≤ 3) →
          (∃ q, w.motion.sequence = some q ∧ q.kind = .easy ∧ q.tag = 0 ∧
            q.members.map (fun m => (m.axis, m.kind, m.target)) = [(.long, .target, t)]) ∧
          ∃ o, (w.axis .long).op = some o ∧ o.source = .easy ∧ o.kind = .target ∧ o.target = some goal ∧ o.member = true)
      (s.seat.ignition ≠ .off → ¬on → opens = false → w.store.armed = true ∧
        w.store.comfortCopy = some ⟨s.seat.massage.preference, s.seat.heat.preference⟩ ∧
        w.store.returnPoint = s.seat.store.returnPoint ∧ still) ∧
      (¬on → opens = true → s.seat.ignition ≠ .off ∨ s.seat.store.armed = true → w.store.armed = false ∧
        (let p := r.position
        let denied := fun (reason : Byte) => refused 4 reason ∧ w.store.returnPoint = none
        if s.seat.store.mask = true then denied 9
        else if Config.channelMap s.seat.variant .long = none ∨ r.referenced = false then denied 5
        else if v ≠ 0 then denied 6
        else if barred ∨ busy then denied 5
        else w.store.returnPoint = some p ∧ asked (max 8 (p - 300)))) ∧
      (s.seat.ignition = .off → ¬on → opens = true → s.seat.store.armed = false → still ∧ w.store = s.seat.store) ∧
      (s.seat.ignition = .off → on → w.store.armed = false ∧ w.store.returnPoint = none ∧
        (s.seat.store.returnPoint = none → still) ∧
        ∀ t, s.seat.store.returnPoint = some t →
          if s.seat.store.mask = true then refused 5 9
          else if 5 < v.toNat then refused 5 6
          else if barred ∨ busy then refused 5 5
          else asked t))) ∧
  (∀ (s : State) (i v x : Byte) (k : KeyWindow), s.Awake → s.seat.store.keyWindow = some k →
    s.seat.motion.sequence = none → s.seat.store.returnPoint = none →
    let opens := if s.seat.power.side = .left then x.getLsbD 0 && !s.seat.peers.vehicle.fields.leftOpen
      else x.getLsbD 1 && !s.seat.peers.vehicle.fields.rightOpen
    let n := k.key.val + 3
    ∃ w, exec (.vehicleState [i, v, x]) s = .next (finish w s.link s.pending) ∧
      (opens = false → w.store.keyWindow = some k ∧ w.motion = s.seat.motion) ∧
      (opens = true → w.store.keyWindow = none ∧ w.store.armed = false ∧
        (let refused := fun (r : Byte) =>
          w.out.head? = some ⟨.event .profileEvent, [3, BitVec.ofNat 8 (n + 1), r, 0, 0]⟩ ∧ w.motion = s.seat.motion
        let slot := s.seat.slot ⟨n, by omega⟩
        if s.seat.store.mask = true then refused 9
        else if s.seat.pcu.state = .protecting ∨ s.seat.pcu.state = .postcrash then refused 5
        else if 5 < v.toNat then refused 6
        else (slot.state = .writing → refused 3) ∧ (slot.state = .empty → refused 7) ∧
          (slot.state = .corrupt → refused 8) ∧
          (slot.state = .valid → readPasses (n + 1) slot.bytes = false → w.motion = s.seat.motion ∧
            w.Latched .profileCorrupt (n + 1) ∧ w.slot ⟨n, by omega⟩ = { slot with state := .corrupt } ∧
            ⟨.event .profileEvent, [3, BitVec.ofNat 8 (n + 1), 8, 0, 0]⟩ ∈ w.out) ∧
          (slot.state = .valid → readPasses (n + 1) slot.bytes = true →
            let p := Profile.ofBytes slot.bytes
            w.pneu.lumbarUpper = min p.lumbarUpper 10 ∧ w.pneu.lumbarLower = min p.lumbarLower 10 ∧
              w.pneu.bolster = min p.bolster 5 ∧
              ((∃ q, w.motion.sequence = some q ∧ q.kind = .recall ∧ q.tag = n + 1 ∧
                q.members.map (fun m => (m.axis, m.target)) = (Axis.all.filter fun a =>
                  p.presence.getLsbD a.index.val && (Config.channelMap s.seat.variant a).isSome).map fun a =>
                    (a, (p.position a : Int))) ∨
                (w.motion.sequence = none ∧ ∃ e ∈ w.out, e.head = .event .sequenceDone ∧
                  e.content.take 2 = [0, BitVec.ofNat 8 (n + 1)])))))) ∧
  (∀ (s : State) (d : Time), s.Awake → s.seat.peers.vehicle.staleAt = some d →
    ∃ w, exec (.peerRecordStale .vehicleState) s = .next (finish w s.link s.pending) ∧
      (s.seat.ignition ≠ .off → w.store = { s.seat.store with
        armed := true, comfortCopy := some ⟨s.seat.massage.preference, s.seat.heat.preference⟩ }) ∧
      (s.seat.ignition = .off → w.store = s.seat.store) ∧
      (s.seat.motion.sequence = none → w.motion = s.seat.motion))

/-- PROFILE_EXPORT, PROFILE_IMPORT and PROFILE_ERASE by their tests (R97, R98, R100). A PROFILE_DATA frame grows the open
assembly in index order; any other index closes it with IMPORT_SEQUENCE; frame 3 of a record that passes its tests starts
the write, with the target slot, source IMPORT, the advanced generation, bit 7 of the presence set cleared and the check
computed anew, and one that does not fails IMPORT_CRC, IMPORT_FORMAT or IMPORT_BUSY (R98, R99, R201). An export whose
record fails its check makes the slot CORRUPT, with its fault live and latched (R79, R97). The bytes are those of 11.2
(R202) as log entry 9 reads it. That the fault event goes before that answer is log entry 37; which bytes a written import
keeps is log entry 44. -/
def Obligations.SlotRequests : Prop :=
  (∀ (s : State) (x : Byte) (c : Instr) (n : Nat), s.Awake → x.toNat = 0 ∨ 7 < x.toNat →
    (c = .profileExport x ∧ n = 6) ∨ (c = .profileImport x ∧ n = 7) ∨ (c = .profileErase x ∧ n = 8) →
    exec c s = .next (settled s.seat s.link [⟨.answer n, [2, 255]⟩] s.pending)) ∧
  (∀ (s : State) (i : Fin 7), s.Awake →
    let x : Byte := BitVec.ofNat 8 (i.val + 1)
    let refused := fun (r p : Byte) => exec (.profileExport x) s = .next (settled s.seat s.link [⟨.answer 6, [r, p]⟩] s.pending)
    if s.seat.store.exporting.isSome then refused 4 255
    else ((s.seat.slot i).state = .writing → refused 4 3) ∧ ((s.seat.slot i).state = .empty → refused 5 7) ∧
      ((s.seat.slot i).state = .corrupt → refused 5 8) ∧
      ((s.seat.slot i).state = .valid → readPasses (i.val + 1) (s.seat.slot i).bytes = false →
        ∃ w, exec (.profileExport x) s = .next (finish w s.link s.pending) ∧ w.inbox = [] ∧
          w.toSeat = { s.seat with faults := w.faults, store := { s.seat.store with
            slots := s.seat.store.slots.set i.val { s.seat.slot i with state := .corrupt } i.isLt } } ∧
          w.Latched .profileCorrupt (i.val + 1) ∧ w.faults.isLive ⟨.profileCorrupt, i.val + 1⟩ = true ∧
          w.out.getLast? = some ⟨.answer 6, [5, 8]⟩) ∧
      ((s.seat.slot i).state = .valid → readPasses (i.val + 1) (s.seat.slot i).bytes = true →
      exec (.profileExport x) s = .next (settled { s.seat with
        store := { s.seat.store with exporting := some ⟨(s.seat.slot i).bytes, 0⟩ } } s.link
        [⟨.answer 6, [0, 255]⟩] s.pending))) ∧
  (∀ (s : State) (i : Fin 7), s.Awake →
    exec (.profileImport (BitVec.ofNat 8 (i.val + 1))) s = .next (settled { s.seat with
      store := { s.seat.store with assembly := some ⟨i, 0, [], s.seat.now + 1000000⟩ } } s.link
      (⟨.answer 7, [0, 255]⟩ :: (s.seat.store.assembly.map fun (m : Assembly) =>
        (⟨.event .profileEvent, [7, BitVec.ofNat 8 (m.slot.val + 1), 12, 0, 0]⟩ : Item)).toList) s.pending)) ∧
  (∀ (s : State) (i : Fin 7), s.Awake →
    let x : Byte := BitVec.ofNat 8 (i.val + 1)
    if s.seat.store.write.isSome then
      exec (.profileErase x) s = .next (settled s.seat s.link [⟨.answer 8, [4, 2]⟩] s.pending)
    else
      exec (.profileErase x) s = .next (settled { s.seat with
        store := { s.seat.store with
          slots := s.seat.store.slots.set i.val ⟨.writing, [], ((s.seat.slot i).generation + 1) % 65536⟩ i.isLt
          write := some ⟨i, .erase, [], s.seat.now + 25000⟩ } } s.link [⟨.answer 8, [0, 255]⟩] s.pending)) ∧
  (∀ (s : State) (n b0 b1 b2 b3 b4 b5 b6 : Byte), s.Awake →
      let data := [n, b0, b1, b2, b3, b4, b5, b6]
      (s.seat.store.assembly = none → exec (.profileData data) s = .next (settled s.seat s.link [] s.pending)) ∧
      (∀ m, s.seat.store.assembly = some m → n.toNat = m.next → n.toNat ≠ 3 →
        exec (.profileData data) s = .next (settled { s.seat with
          store := { s.seat.store with
            assembly := some ⟨m.slot, m.next + 1, m.bytes ++ [b0, b1, b2, b3, b4, b5, b6], s.seat.now + 1000000⟩ } }
          s.link [] s.pending)) ∧
      (∀ m, s.seat.store.assembly = some m → n.toNat ≠ m.next →
        exec (.profileData data) s = .next (settled { s.seat with store := { s.seat.store with assembly := none } } s.link
          [⟨.event .profileEvent, [7, BitVec.ofNat 8 (m.slot.val + 1), 10, 0, 0]⟩] s.pending)) ∧
      (∀ m, s.seat.store.assembly = some m → n.toNat = m.next → n.toNat = 3 →
        let bytes := m.bytes ++ [b0, b1, b2, b3, b4, b5, b6]
        let g := ((s.seat.slot m.slot).generation + 1) % 65536
        let good := crc16 (bytes.take 26) = storedCheck bytes
        let failed := fun (r : Byte) =>
          exec (.profileData data) s = .next (settled { s.seat with store := { s.seat.store with assembly := none } } s.link
            [⟨.event .profileEvent, [7, BitVec.ofNat 8 (m.slot.val + 1), r, 0, 0]⟩] s.pending)
        (¬good → failed 13) ∧ (good → (Profile.ofBytes bytes).inRange = false → failed 14) ∧
        (good → (Profile.ofBytes bytes).inRange = true → s.seat.store.write.isSome → failed 15) ∧
        (good → (Profile.ofBytes bytes).inRange = true → s.seat.store.write = none →
        exec (.profileData data) s = .next (settled { s.seat with
          store := { s.seat.store with
            assembly := none, slots := s.seat.store.slots.set m.slot.val ⟨.writing, [], g⟩ m.slot.isLt
            write := some ⟨m.slot, .importing, importBytes m.slot g bytes, s.seat.now + 25000⟩ } } s.link [] s.pending)))) ∧
  (∀ (i : Fin 7) (g : Nat) (bytes : List Byte), bytes.length = 28 → g < 65536 →
    let b := importBytes i g bytes
    let at' := fun (k : Nat) => (b.getD k 0).toNat
    b.length = 28 ∧ at' 0 = 1 ∧ at' 1 = i.val + 1 ∧ at' 2 = 2 ∧ at' 3 * 256 + at' 4 = g ∧
      (∀ k, k < 8 → (b.getD 5 0).getLsbD k = (decide (k ≠ 7) && (bytes.getD 5 0).getLsbD k)) ∧
      (∀ k, 6 ≤ k → k < 26 → b[k]? = bytes[k]?) ∧ at' 26 * 256 + at' 27 = crc16 (b.take 26)) ∧
  (∀ p : Profile, p.inRange = true ↔ p.version = 1 ∧
    (∀ a : Axis, p.presence.getLsbD a.index.val = true → p.position a ≤ Config.travel a) ∧ p.lumbarUpper ≤ 10 ∧
    p.lumbarLower ≤ 10 ∧ p.bolster ≤ 5 ∧ (∀ g i, p.massage = some (g, i) → (g ≤ 4 ∨ g = 7) ∧ 1 ≤ i ∧ i ≤ 5) ∧
    (∀ c b, p.heat = some (c, b) → c ≤ 3 ∧ b ≤ 3))

/-! ### Chapter 5: air -/

/-- A manifold reading is taken by the pin; while pumping it confirms the flow at the baseline plus 2 and ends the FILL at
its target or at 50 kPa, with the cells of the set at that reading (R104, R107); so does the confirmed time at the limit
of the FILL (R107). A grant that comes starts the pumping, with the reading as baseline where flow is not confirmed: the
last pressure of the cells where they have one in common, else the sensor's. A FILL whose pump grant is revoked is
suspended: its cells take the reading, it goes first within its class with its times and confirmed flag, and its requester
is told, as it is when pumping resumes; taken again, it takes over the waiting claim (R110). A PROTECT FILL ends what is
active ABORTED, becomes active with the pump claim at P5, and pumps at once with the grant of a FILL that pumped; one that
is there already is merged with (R111, R106). That the reading is an input the pin takes at any time, also outside
pumping, that target and relief are tested when it comes, and that reading of the open valves are log entry 6's choices;
the order of target and relief is log entry 39. That a MEASURE which a PROTECT FILL ends leaves its cell VENTED where the
last pressure is 0, and else HOLDING, is log entry 8. -/
def Obligations.ReadingEndsFill : Prop :=
  (∀ (s : State) (x : Nat), s.Powered →
    (s.seat.power.sleepPending = false → (∀ f, s.seat.pneu.manifold ≠ .pumping f) →
      exec (.manifoldReadingChange x) s = .next (settled { s.seat with pneu := { s.seat.pneu with sensor := x } } s.link []
        s.pending)) ∧
    (∀ f, s.seat.pneu.manifold = .pumping f →
      ∃ w, exec (.manifoldReadingChange x) s = .next (finish w s.link s.pending) ∧ w.pneu.sensor = x ∧
        (f.target ≤ x ∨ 50 ≤ x → w.pneu.manifold = .idle ∧
          ∀ c ∈ f.cells, (w.cell c).last = some x ∧ (w.cell c).lastAt = s.seat.now ∧
            (w.cell c).state = if x = 0 then .vented else .holding) ∧
        (x < f.target → x < 50 → w.alloc = s.seat.alloc ∧ (∀ c, w.cell c = s.seat.cell c) ∧
          ∃ g, w.pneu.manifold = .pumping g ∧ g.cells = f.cells ∧ g.target = f.target ∧
            (g.confirmed = true ↔ f.confirmed = true ∨ f.baseline + 2 ≤ x) ∧
            g.unconfirmedTime + g.confirmedTime ≤ f.unconfirmedTime + f.confirmedTime + (s.seat.now - f.since)))) ∧
  (∀ (s : State) (f : Fill), s.Powered → s.seat.pneu.manifold = .pumping f → f.confirmed = true →
    ∃ w, exec .fillLimitExpiry s = .next (finish w s.link s.pending) ∧ w.pneu.manifold = .idle ∧
      f.limit * 1000 ≤ f.confirmedTime + (w.now - f.since) ∧ w.faults = s.seat.faults ∧
      let reading := f.opening.getD s.seat.pneu.sensor
      ∀ c ∈ f.cells, (w.cell c).last = some reading ∧ (w.cell c).state = if reading = 0 then .vented else .holding) ∧
  (∀ (w : Work) (f : Fill), w.pneu.manifold = .fillWait f → w.alloc.holds .pump = true →
    ∃ g, (w.tryPump).pneu.manifold = .pumping g ∧ g.cells = f.cells ∧ g.target = f.target ∧ g.since = w.now ∧
      g.confirmed = f.confirmed ∧ g.unconfirmedTime = f.unconfirmedTime ∧ g.confirmedTime = f.confirmedTime ∧
      (f.confirmed = true → g.baseline = f.baseline) ∧
      (∀ x, f.confirmed = false → f.cells ≠ [] → (∀ c ∈ f.cells, (w.cell c).last = some x ∧ (w.cell c).state ≠ .venting) →
        g.baseline = x) ∧
      (∀ c ∈ f.cells, f.confirmed = false → (w.cell c).last = none → g.baseline = w.pneu.sensor) ∧
      (∀ c ∈ f.cells, ((w.tryPump).cell c).state = .filling) ∧ (w.tryPump).power.window = none ∧
      (f.suspended = true → f.cls = .massage → Notice.massageResumed ∈ (w.tryPump).inbox)) ∧
  (∀ (w : Work) (f : Fill), w.pneu.manifold = .pumping f →
    let v := w.suspendFill
    let reading := f.opening.getD w.pneu.sensor
    v.pneu.manifold = .idle ∧ v.alloc = w.alloc ∧ v.inbox.getLast? = some .manifold ∧
      (f.cls = .massage → Notice.massageSuspended ∈ v.inbox) ∧
      (∀ c, v.cell c = if c ∈ f.cells then { w.cell c with
        state := if reading = 0 then .vented else .holding, last := some reading, lastAt := w.now } else w.cell c) ∧
      ∃ g, v.pneu.queue = w.pneu.queue.takeWhile (fun e => e.cls.rank < f.cls.rank) ++ [.fill g] ++
          w.pneu.queue.dropWhile (fun e => e.cls.rank < f.cls.rank) ∧
        g.cls = f.cls ∧ g.cells = f.cells ∧ g.target = f.target ∧ g.limit = f.limit ∧ g.confirmed = f.confirmed ∧
        g.suspended = true ∧
        g.confirmedTime = f.confirmedTime + (if f.confirmed = true then w.now - f.since else 0) ∧
        g.unconfirmedTime = f.unconfirmedTime + (if f.confirmed = true then 0 else w.now - f.since)) ∧
  (∀ (w : Work) (f : Fill) (e : Claim), w.alloc.grantOf .pump = none → w.alloc.entryOf .pump = some e →
    e.cls = f.cls.claimClass → (f.cls = .massage → ¬w.Latched .pumpNoPressure 0) →
    (w.takeFill f).pneu.manifold = .fillWait f ∧ (w.takeFill f).alloc = w.alloc) ∧
  (∀ w : Work,
    let v := w.requestProtectFill
    let protect := fun (e : AirEntry) => e.cls = .protect
    let told := fun (n : Notice) => n ∈ v.inbox
    let reading := w.pneu.reading
    ((∃ e ∈ w.pneu.queue, protect e) ∨ (∃ e ∈ w.pneu.manifold.active, protect e) → v = w) ∧
    (¬((∃ e ∈ w.pneu.queue, protect e) ∨ (∃ e ∈ w.pneu.manifold.active, protect e)) →
      v.pneu.queue = w.pneu.queue ∧
      (∃ g, v.pneu.manifold.active = some (.fill g) ∧ g.cls = .protect ∧ g.cells = [10, 11, 12, 13] ∧ g.target = 40 ∧
        g.limit = 1500) ∧
      (v.alloc.holds .pump = true ∨ v.alloc.queued .pump = true) ∧
      (w.alloc.Sound w.loadCeiling → (∀ g ∈ v.alloc.grants, g.load = .pump → g.cls = .p5) ∧
        ∀ e ∈ v.alloc.queue, e.load = .pump → e.cls = .p5) ∧
      (∀ c d, w.pneu.manifold = .measuring c d → told (.supportEnd c .aborted) ∧
        (c.val < 10 → v.cell c = { w.cell c with state := if (w.cell c).last = some 0 then .vented else .holding })) ∧
      (∀ f, w.pneu.manifold = .fillWait f ∨ w.pneu.manifold = .pumping f →
        (f.cls = .massage → told (.massageEnd .aborted)) ∧ (f.cls = .support → ∀ c ∈ f.cells, told (.supportEnd c .aborted))) ∧
      (∀ f, w.pneu.manifold = .pumping f → (∀ c ∈ f.cells, c.val < 10 → v.cell c = { w.cell c with
          state := if reading = 0 then .vented else .holding, last := some reading, lastAt := w.now }) ∧
        (∀ g, w.alloc.Sound w.loadCeiling → w.alloc.grantOf .pump = some g →
          v.alloc.grantOf .pump = some { g with cls := .p5 } ∧ ∃ p, v.pneu.manifold = .pumping p))))

/-- A FILL whose unconfirmed time reaches 3000 ms ends FAILED and latches PUMP_NO_PRESSURE, which is not live and so is
always cleared by CLEAR_FAULTS; while it is latched a MASSAGE FILL fails before any claim, and other FILLs are tried
(R108). -/
def Obligations.PumpNoPressureByR108 : Prop :=
  (∀ (s : State) (f : Fill), s.Powered → s.seat.pneu.manifold = .pumping f → f.confirmed = false →
    ∃ w, exec .fillUnconfirmedTimeout s = .next (finish w s.link s.pending) ∧ w.pneu.manifold = .idle ∧
      3000000 ≤ f.unconfirmedTime + (w.now - f.since) ∧ w.Latched .pumpNoPressure 0 ∧ w.faults.live = s.seat.faults.live ∧
      (f.cls = .massage → Notice.massageEnd .failed ∈ w.inbox) ∧
      (∀ c, f.cls = .support → c ∈ f.cells → Notice.supportEnd c .failed ∈ w.inbox)) ∧
  (∀ t : FaultTable, t.isLive ⟨.pumpNoPressure, 0⟩ = false → t.clearLatched.isLatched ⟨.pumpNoPressure, 0⟩ = false) ∧
  (∀ (w : Work) (f : Fill), w.pneu.manifold = .idle → w.Latched .pumpNoPressure 0 → f.cls = .massage →
    (w.takeFill f).alloc = w.alloc ∧ (w.takeFill f).pneu = w.pneu ∧
      (w.takeFill f).inbox = w.inbox ++ [.massageEnd .failed, .manifold]) ∧
  (∀ (w : Work) (f : Fill), f.cls ≠ .massage →
    ∃ g, (w.takeFill f).pneu.manifold.active = some (.fill g) ∧ g.cells = f.cells ∧ g.target = f.target ∧ g.cls = f.cls)

/-- A MEASURE ends at its settle timer with the reading as the last pressure of its cell (R109). A full vent ends VENTED
with pressure 0, a partial one HOLDING with the pressure unknown (R113); a leak timer asks for a LEAK adjustment, or
starts again where the target is 0 and the cell VENTED (R118). An adjustment judges the reading of its MEASURE: within 2
of the target it ends, after four rounds it ends all the same, below it fills to the target plus 1 and above it vents 25
ms for each kPa; the end of its FILL or vent leads back to the MEASURE, a failed FILL ends it, and a hold makes that of a
bolster pending (R116, R119). An adjustment that ends starts its leak timer, and support that is quiet with a report owed
sends SUPPORT_STATE (R116, R120). That the settle timer's end carries the reading, which becomes the sensor's, is log
entry 6's choice; the clock after an expiry is log entry 2. That WITHDRAWN counts as ABORTED is log entry 40; the bytes of
the event are those of 11.2 (R202) as log entry 9 reads it. -/
def Obligations.CellTimers : Prop :=
  (∀ (s : State) (c : CellIx) (d : Time) (x : Nat), s.Powered → s.seat.pneu.manifold = .measuring c d →
    ∃ w, exec (.measureSettleExpiry x) s = .next (finish w s.link s.pending) ∧ w.now = max s.seat.now d ∧
      w.pneu.manifold = .idle ∧ w.pneu.sensor = x ∧ w.inbox = [.supportReading c x, .manifold] ∧
      w.cell c = { s.seat.cell c with state := if x = 0 then .vented else .holding, last := some x, lastAt := w.now } ∧
      (∀ e, e ≠ c → w.cell e = s.seat.cell e) ∧ w.alloc = s.seat.alloc) ∧
  (∀ (s : State) (c : CellIx) (d : Time), s.Powered → (s.seat.cell c).ventEnd = some d →
    ∃ w, exec (.ventEnd c) s = .next (finish w s.link s.pending) ∧ w.now = max s.seat.now d ∧
      (w.cell c).ventEnd = none ∧
      ((s.seat.cell c).ventFull = true → (w.cell c).state = .vented ∧ (w.cell c).last = some 0) ∧
      ((s.seat.cell c).ventFull = false → (w.cell c).state = .holding ∧ (w.cell c).last = none) ∧
      (∀ e, e ≠ c → w.cell e = s.seat.cell e) ∧ w.alloc = s.seat.alloc ∧ w.pneu.manifold = s.seat.pneu.manifold) ∧
  (∀ (s : State) (c : CellIx) (d : Time), s.Powered → 8 ≤ c.val → (s.seat.cell c).leakAt = some d →
    (s.seat.cell c).adj = none → s.seat.pneu.hold = .none →
    let target := if c = 8 then 4 * s.seat.pneu.lumbarUpper else if c = 9 then 4 * s.seat.pneu.lumbarLower
      else 6 * s.seat.pneu.bolster
    ∃ w, exec (.leakTimerExpiry c) s = .next (finish w s.link s.pending) ∧ w.now = max s.seat.now d ∧
      (target = 0 ∧ (s.seat.cell c).state = .vented →
        w.cell c = { s.seat.cell c with leakAt := some (w.now + 60000000) } ∧ w.inbox = []) ∧
      (¬(target = 0 ∧ (s.seat.cell c).state = .vented) → (w.cell c).leakAt = none ∧
        ∃ j, (w.cell c).adj = some j ∧ j.target = target ∧ j.count = 0 ∧ j.cause = .leak ∧
          (j.phase = if target = 0 then .vent else .measure))) ∧
  (∀ (w : Work) (c : CellIx) (p : Nat) (a : Adjustment), (w.cell c).adj = some a → a.phase = .measure → a.target ≠ 0 →
    w.pneu.hold = .none →
    let v := w.adjReading c p
    let within := a.target ≤ p + 2 ∧ p ≤ a.target + 2
    let ended := (v.cell c).adj = none ∧ (v.cell c).leakAt = some (w.now + 60000000)
    (within → ended) ∧ (¬within → a.count = 4 → ended) ∧
    (¬within → a.count ≠ 4 → p < a.target → (v.cell c).adj = some { a with count := a.count + 1, phase := .fill } ∧
      ∃ f, AirEntry.fill f ∈ v.pneu.queue ∧ v.pneu.queue.length = w.pneu.queue.length + 1 ∧ f.cls = .support ∧
        f.cells = [c] ∧ f.target = a.target + 1 ∧ f.limit = 1500) ∧
    (¬within → a.count ≠ 4 → a.target < p → (v.cell c).adj = some { a with count := a.count + 1, phase := .vent } ∧
      (v.cell c).state = .venting ∧ (v.cell c).ventFull = false ∧
      (v.cell c).ventEnd = some (w.now + 25000 * (p - a.target)))) ∧
  (∀ (w : Work) (c : CellIx) (e : AirEnd) (a : Adjustment), (w.cell c).adj = some a →
    a.phase = .measure ∨ a.phase = .fill →
    let v := w.adjOpEnded c e
    (e = .failed → (v.cell c).adj = none ∧ (v.cell c).leakAt = some (w.now + 60000000)) ∧
    (e ≠ .failed → c.val < 10 ∨ w.pneu.hold = .none → a.target ≠ 0 →
      (v.cell c).adj = some { a with phase := .measure } ∧ AirEntry.measure c ∈ v.pneu.queue) ∧
    (e ≠ .failed → 10 ≤ c.val → w.pneu.hold ≠ .none → (v.cell c).adj = some { a with phase := .pending } ∧
      v.pneu.queue = w.pneu.queue)) ∧
  (∀ (w : Work) (c : CellIx) (a : Adjustment), (w.cell c).adj = some a → a.phase = .vent → w.pneu.hold = .none →
    let v := w.adjVentOver c
    (a.target = 0 → (w.cell c).last = some 0 → (v.cell c).adj = none) ∧
    (a.target ≠ 0 → (v.cell c).adj = some { a with phase := .measure } ∧ AirEntry.measure c ∈ v.pneu.queue)) ∧
  (∀ (w : Work) (c : CellIx) (a : Adjustment) (e : AdjEnd), 8 ≤ c.val →
    let v := w.endAdj c a e
    let join := fun (l : List CellIx) => if c ∈ l then l else l ++ [c]
    let accepted := if e = .accepted then join w.pneu.accepted else w.pneu.accepted
    let failed := if e = .failed then join w.pneu.failed else w.pneu.failed
    let level := w.pneu.levelEnded = true ∨ a.cause = .level
    let quiet := ∀ d : CellIx, 8 ≤ d.val → d ≠ c → (w.cell d).adj = none
    let reported := quiet ∧ (level ∨ accepted ≠ [] ∨ failed ≠ [])
    (v.cell c).adj = none ∧ (v.cell c).leakAt = some (w.now + 60000000) ∧
    (reported → v.pneu.accepted = [] ∧ v.pneu.failed = [] ∧ v.pneu.levelEnded = false ∧
      v.out = w.out ++ [⟨.event .supportState, [BitVec.ofNat 8 w.pneu.lumbarUpper, BitVec.ofNat 8 w.pneu.lumbarLower,
        BitVec.ofNat 8 w.pneu.bolster] ++ mapBytes 2 (accepted.map (·.val)) ++ mapBytes 2 (failed.map (·.val))⟩]) ∧
    (¬reported → v.out = w.out ∧ v.pneu.accepted = accepted ∧ v.pneu.failed = failed ∧
      (v.pneu.levelEnded = true ↔ level)))

/-! ### Chapter 6: massage -/

/-- COMFORT_REQUEST replaces its record for 2000 ms and both baselines; the first frame gives no edge (R125, R152, R178);
an intensity edge sets the clamped intensity in every state (R127). A MASSAGE_STREAM frame is shaped, joins the stream
step queue where it is taken and fewer than 8 steps wait, and restarts a running stream watch (R137, R139). -/
def Obligations.ComfortFrames : Prop :=
  (∀ (s : State) (a b c d e : Byte), s.Awake →
    let f : ComfortFields := ⟨a.getLsbD 0, b.toNat, c.toNat, d.toNat, e.toNat⟩
    let peers : Peers := { s.seat.peers with comfort := ⟨some f, some (s.seat.now + 2000000)⟩ }
    (∃ w, exec (.comfortRequest [a, b, c, d, e]) s = .next (finish w s.link s.pending) ∧ w.peers = peers ∧
      w.massage.baseline = some (f.on, f.program, f.intensity) ∧ w.heat.baseline = some (f.cushion, f.back) ∧
      (∀ on p i, s.seat.massage.baseline = some (on, p, i) →
        w.massage.intensity = if f.intensity = i then s.seat.massage.intensity else max 1 (min 5 f.intensity))) ∧
    (s.seat.massage.baseline = none → s.seat.heat.baseline = none →
      exec (.comfortRequest [a, b, c, d, e]) s = .next (settled { s.seat with
        peers := peers
        faults := s.seat.faults.clearLive ⟨.peerStale, 5⟩
        heat := { s.seat.heat with baseline := some (f.cushion, f.back) }
        massage := { s.seat.massage with baseline := some (f.on, f.program, f.intensity) } } s.link [] s.pending))) ∧
  (∀ (s : State) (f v h l p : Byte), s.Awake →
    let hold := h.toNat * 256 + l.toNat
    let fill := Config.massageCells.filter fun c => f.getLsbD c.val && !v.getLsbD c.val
    let vent := Config.massageCells.filter fun c => v.getLsbD c.val
    let q : StreamStep := ⟨fill, vent, if hold < 100 then 100 else if 5000 < hold then 5000 else hold, p.toNat⟩
    let taken := (s.seat.massage.state = .running ∨ s.seat.massage.state = .paused) ∧
      (s.seat.massage.program = 7 ∨ s.seat.massage.pendingProgram = some 7) ∧ s.seat.massage.queue.length < 8
    exec (.massageStream [f, v, h, l, p]) s = .next (settled { s.seat with
      massage := { s.seat.massage with
        queue := if taken then s.seat.massage.queue ++ [q] else s.seat.massage.queue
        watch := if s.seat.massage.watch.isSome then some (s.seat.now + 3000000) else none } } s.link [] s.pending))

/-- Edges of a COMFORT_REQUEST at the sequencer. A program edge of a known code becomes the program in force, or in a
session the pending one (R126). A switch edge to on restarts the session timer, or starts a session of 15 min at step 0,
in program 7 with the head of the stream step queue (R130, R138), or is refused with the reason of the first start
condition that fails, a VENTING then ending (R128, R129); one to off ends a session through VENTING (R128, R135).
shed_comfort pauses a running session, and its end resumes a session that no other cause pauses with the next step (R133);
a suspended fill pauses it and its resuming resumes it (R134). The bytes are those of 11.2 (R202) as log entry 9 reads
it. -/
def Obligations.SessionEdges : Prop :=
  (∀ (s : State) (a b c d e : Byte) (on : Bool) (p i : Nat), s.Awake → s.seat.massage.baseline = some (on, p, i) →
    i = c.toNat →
    let m : Massage := { s.seat.massage with baseline := some (a.getLsbD 0, b.toNat, c.toNat) }
    let session := m.state = .running ∨ m.state = .paused
    ∃ w, exec (.comfortRequest [a, b, c, d, e]) s = .next (finish w s.link s.pending) ∧
      (a.getLsbD 0 = on → p = b.toNat → w.massage = m) ∧
      (a.getLsbD 0 = on → p ≠ b.toNat →
        (4 < b.toNat → b.toNat ≠ 7 → w.massage = m) ∧
        (b.toNat ≤ 4 ∨ b.toNat = 7 → session →
          w.massage = { m with pendingProgram := if b.toNat = m.program then none else some b.toNat }) ∧
        (b.toNat ≤ 4 ∨ b.toNat = 7 → ¬session → w.massage = { m with
          program := b.toNat, pendingProgram := none
          queue := if m.program = 7 ∧ b.toNat ≠ 7 then [] else m.queue })) ∧
      (a.getLsbD 0 = true → on = false → p = b.toNat →
        let told := (w.out.filter (·.head == .event .massageState)).map (·.content.take 2)
        let refused := fun (r : Byte) => w.massage = { m with state := .off, ventingEnd := none } ∧
          told = if m.state = .venting then [[3, r], [0, 4]] else [[0, r]]
        (session → w.massage = { m with sessionEnd := some (s.seat.now + 900000000) }) ∧
        (¬session →
          if s.seat.variant = 3 then refused 12
          else if s.seat.ignition = .off ∨ ¬(s.seat.pcu.state = .normal ∨ s.seat.pcu.state = .restoring) then refused 13
          else if s.seat.shedComfort = true then refused 14
          else w.massage.state = .running ∧ w.massage.sessionEnd = some (s.seat.now + 900000000) ∧
            w.massage.ventingEnd = none ∧ w.massage.byPump = false ∧ w.massage.byShed = false ∧
            w.massage.byProtect = false ∧ w.massage.intensity = m.intensity ∧ told = [[1, 0]] ∧
            (m.program ≤ 4 → ∃ st, w.massage.step = some st ∧ st.index = some 0 ∧ st.peak = 10 + 5 * m.intensity) ∧
            (∀ q ∈ m.queue.head?, m.program = 7 → w.massage.queue = m.queue.tail ∧ ∃ st, w.massage.step = some st ∧
              st.fill = q.fill ∧ st.vent = q.vent ∧ st.hold = q.hold ∧ st.peak = min q.peak (10 + 5 * m.intensity)))) ∧
      (a.getLsbD 0 = false → on = true → p = b.toNat →
        (¬session → w.massage = m) ∧
        (session → w.massage.state = .venting ∧ w.massage.reason = .request ∧
          w.massage.ventingEnd = some (s.seat.now + 1500000) ∧ w.massage.sessionEnd = none ∧ w.massage.step = none))) ∧
  (∀ (s : State) (h l f : Byte), s.Awake →
    let m := s.seat.massage
    ∃ w, exec (.energyAllowance [h, l, f]) s = .next (finish w s.link s.pending) ∧
      (f.getLsbD 0 = true → m.byShed = false → m.state = .running ∨ m.state = .paused →
        w.massage = { m with
          state := .paused, byShed := true, byPump := false, holdEnd := none, watch := none
          stepEnded := m.stepEnded || m.state == .running || m.byPump }) ∧
      (f.getLsbD 0 = true → m.byShed = true ∨ m.state = .off ∨ m.state = .venting → w.massage = m) ∧
      (f.getLsbD 0 = false → m.byShed = false → w.massage = m) ∧
      (f.getLsbD 0 = false → m.byShed = true → m.byPump = true ∨ m.byProtect = true →
        w.massage = { m with byShed := false }) ∧
      (f.getLsbD 0 = false → m.byShed = true → m.byPump = false → m.byProtect = false →
        w.massage.state = .running ∧ w.massage.stepEnded = false ∧
        (m.stepEnded = false → w.massage.step = m.step) ∧
        (∀ st k, m.stepEnded = true → m.pendingProgram = none → m.program ≤ 4 → m.step = some st → st.index = some k →
          ∃ n, w.massage.step = some n ∧
            n.index = some (if k + 1 < (Config.programSteps m.program).length then k + 1 else 0)))) ∧
  (∀ w : Work, w.massage.state = .running ∨ w.massage.state = .paused → w.massage.stepEnded = false →
    (∃ st ∈ w.massage.step, st.phase = .fill) →
    w.massageFillSuspended.massage = { w.massage with byPump := true, state := .paused, watch := none } ∧
    (w.massage.byPump = true → w.massage.byShed = false → w.massage.byProtect = false →
      w.massageFillResumed.massage.state = .running ∧ w.massageFillResumed.massage.byPump = false ∧
      w.massageFillResumed.massage.step = w.massage.step) ∧
    (w.massage.byPump = true → w.massage.byShed = true ∨ w.massage.byProtect = true →
      w.massageFillResumed.massage = { w.massage with byPump := false }))

/-- An intensity edge sets the clamped intensity in every state; one equal to the intensity in force does nothing more; a
MASSAGE_STATE is sent in a session. The peak of a step is fixed at its start, and a FILL asked for keeps its target
(R127). -/
def Obligations.IntensityByR127 : Prop :=
  (∀ (w : Work) (i : Nat),
    let v := if i = 0 then 1 else if 5 < i then 5 else i
    (w.intensityEdge i).massage = { w.massage with intensity := v } ∧ (w.intensityEdge i).pneu = w.pneu ∧
      (v = w.massage.intensity → w.intensityEdge i = w) ∧
      (v ≠ w.massage.intensity → w.massage.state ≠ .running → w.massage.state ≠ .paused → (w.intensityEdge i).out = w.out) ∧
      (v ≠ w.massage.intensity → w.massage.state = .running ∨ w.massage.state = .paused → ∃ e,
        (w.intensityEdge i).out = w.out ++ [e] ∧ e.head = .event .massageState)) ∧
  ([1, 2, 3, 4, 5].map Config.intensityPeak = [15, 20, 25, 30, 35]) ∧
  (∀ (m : Massage) (i : Nat) (p : Config.ProgramStep), m.program ≠ 7 → (Config.programSteps m.program)[i]? = some p →
    (m.stepAt i).1.peak = 10 + 5 * m.intensity ∧ (m.stepAt i).1.fill = p.fill ∧ (m.stepAt i).1.vent = p.vent ∧
      (m.stepAt i).1.hold = p.hold ∧ (m.stepAt i).2 = m)

/-- A step starts with a full vent of 1500 ms for each cell of its vent set and then a MASSAGE FILL of its fill set to its
peak with limit 800 ms, or, without one, with its hold (R130). The fill it awaits hands back its end: TARGET, LIMIT,
RELIEF and WITHDRAWN start the hold, and end a pause by PUMP alone; FAILED ends the session in VENTING with PUMP_FAULT;
ABORTED counts the step ended and pauses for PROTECT; an end that is not awaited is ignored (R131, R134). A step whose
hold ends is followed by the next step of its program, looping, or by step 0 of a pending program, which takes effect
(R126, R130, R132); program 7 takes the head of the stream step queue, its peak clamped, or plays the HOLD step of 500 ms
(R138). A session that times out, or whose stream falls silent, enters VENTING for 1500 ms with every massage cell venting
and its timers, causes, step and stream queue gone (R129, R135, R139); the VENTING ends in OFF (R135). The clock after an
expiry is log entry 2. The bytes of MASSAGE_STATE are those of 11.2 (R202) as log entry 9 reads it. -/
def Obligations.StepsAndSessions : Prop :=
  (∀ (s : State) (d : Time) (st : Step), s.Powered → s.seat.massage.holdEnd = some d →
      s.seat.massage.state = .running → s.seat.massage.step = some st →
      ∃ w, exec .stepHoldExpiry s = .next (finish w s.link s.pending) ∧ w.now = max s.seat.now d ∧
        (∀ i, st.index = some i → s.seat.massage.pendingProgram = none → s.seat.massage.program ≤ 4 →
          ∃ n, w.massage.step = some n ∧
            n.index = some (if i + 1 < (Config.programSteps s.seat.massage.program).length then i + 1 else 0) ∧
            n.peak = 10 + 5 * s.seat.massage.intensity) ∧
        (∀ p, s.seat.massage.pendingProgram = some p → p ≤ 4 → w.massage.program = p ∧ w.massage.pendingProgram = none ∧
          ∃ n, w.massage.step = some n ∧ n.index = some 0) ∧
        (s.seat.massage.pendingProgram = some 7 ∨ (s.seat.massage.pendingProgram = none ∧ s.seat.massage.program = 7) →
          w.massage.program = 7 ∧ w.massage.pendingProgram = none ∧ w.massage.queue = s.seat.massage.queue.tail ∧
          (s.seat.massage.queue = [] → w.massage.step = some ⟨none, [], [], 500, 0, .hold⟩ ∧
            w.massage.holdEnd = some (w.now + 500000) ∧ ∀ c, w.cell c = s.seat.cell c) ∧
          (∀ q ∈ s.seat.massage.queue.head?, w.massage.step = some ⟨none, q.fill, q.vent, q.hold,
            min q.peak (10 + 5 * s.seat.massage.intensity), if q.fill = [] then .hold else .fill⟩))) ∧
  (∀ (w : Work) (i : Nat) (p : Config.ProgramStep), w.massage.program ≠ 7 →
    (Config.programSteps w.massage.program)[i]? = some p →
    let v := w.startStep i
    let peak := 10 + 5 * w.massage.intensity
    v.massage = { w.massage with
      step := some ⟨some i, p.fill, p.vent, p.hold, peak, if p.fill = [] then .hold else .fill⟩
      holdEnd := if p.fill = [] then some (w.now + 1000 * p.hold) else none } ∧ v.out = w.out ∧
    (∀ c ∈ p.vent, (v.cell c).state = .venting ∧ (v.cell c).ventFull = true ∧ (v.cell c).ventEnd = some (w.now + 1500000)) ∧
    (∀ c, c ∉ p.vent → (v.cell c).ventEnd = (w.cell c).ventEnd) ∧
    (p.fill = [] → v.pneu.queue = w.pneu.queue) ∧
    (p.fill ≠ [] → ∃ f, AirEntry.fill f ∈ v.pneu.queue ∧ f.cls = .massage ∧ f.cells = p.fill ∧ f.target = peak ∧
      f.limit = 800)) ∧
  (∀ (w : Work) (e : AirEnd) (st : Step), w.massage.step = some st →
    let m := w.massage
    let v := w.massageFillEnded e
    let awaited := (m.state = .running ∨ m.state = .paused) ∧ m.stepEnded = false ∧ st.phase = .fill
    let holding : Massage := { m with step := some { st with phase := .hold }, holdEnd := some (w.now + 1000 * st.hold) }
    let told := (v.out.drop w.out.length).map fun i => (i.head, i.content.take 2)
    (¬awaited → v = w) ∧
    (awaited → e = .target ∨ e = .limit ∨ e = .relief ∨ e = .withdrawn →
      (m.byPump = false → v.massage = holding ∧ v.out = w.out) ∧
      (m.byPump = true → m.byShed = true ∨ m.byProtect = true → v.massage = { holding with byPump := false }) ∧
      (m.byPump = true → m.byShed = false → m.byProtect = false → v.massage = { holding with
        byPump := false, state := .running
        watch := if m.program = 7 then some (w.now + 3000000) else none } ∧ told = [(.event .massageState, [1, 2])])) ∧
    (awaited → e = .failed → v.massage.state = .venting ∧ v.massage.reason = .pumpFault ∧ v.massage.step = none ∧
      v.massage.ventingEnd = some (w.now + 1500000) ∧ v.massage.sessionEnd = none ∧
      (.event .massageState, [3, 8]) ∈ told) ∧
    (awaited → e = .aborted → v.massage = { m with
        stepEnded := true, state := .paused, byPump := false, byProtect := true, watch := none } ∧
      (m.state = .running → told = [(.event .massageState, [2, 3])]))) ∧
  (∀ (s : State) (c : Instr) (d : Time) (r : MassageReason), s.Powered →
    s.seat.massage.state = .running ∨ s.seat.massage.state = .paused →
    (c = .sessionTimerExpiry ∧ s.seat.massage.sessionEnd = some d ∧ r = .timeout) ∨
      (c = .streamWatchExpiry ∧ s.seat.massage.watch = some d ∧ r = .streamStale) →
    ∃ w, exec c s = .next (finish w s.link s.pending) ∧ w.now = max s.seat.now d ∧ w.massage.state = .venting ∧
      w.massage.reason = r ∧ w.massage.ventingEnd = some (w.now + 1500000) ∧ w.massage.sessionEnd = none ∧
      w.massage.holdEnd = none ∧ w.massage.watch = none ∧ w.massage.step = none ∧ w.massage.queue = [] ∧
      w.massage.pendingProgram = none ∧ w.massage.byPump = false ∧ w.massage.byShed = false ∧ w.massage.byProtect = false ∧
      (s.seat.variant ≠ 3 → ∀ x : CellIx, x.val < 8 → (w.cell x).state = .venting ∧ (w.cell x).ventFull = true ∧
        (w.cell x).ventEnd = some (w.now + 1500000))) ∧
  (∀ (s : State) (d : Time), s.Powered → s.seat.power.sleepPending = false → s.seat.massage.ventingEnd = some d →
    let m : Massage := { s.seat.massage with state := .off, ventingEnd := none }
    exec .ventingTimerExpiry s = .next (settled { s.seat with now := max s.seat.now d, massage := m } s.link
      [massageStateItem m (max s.seat.now d) s.seat.massage.reason] s.pending))

/-! ### Chapter 7: heating -/

/-- The conversion of a count (R145): open at 4095, short below 40, the clamps, and the floor of the interpolation between
the breakpoints. A measurement sets T10 and judges the cut-off where it is valid, and otherwise sets the sensor fault,
live and latched; the third valid one in a row ends the fault and its live condition (R145, R146). The cut-off is set at
45.0 degrees, with HEATER_OVERTEMP live and latched, stays so without latching anew, and ends with its live condition
below 43.0 (R149). The clock after a measurement is log entry 2. -/
def Obligations.MeasurementJudged : Prop :=
  (∀ c, 4095 ≤ c → convertCount c = .opened) ∧ (∀ c, c < 40 → convertCount c = .short) ∧
  (∀ c, 3160 ≤ c → c < 4095 → convertCount c = .temp (-200)) ∧ (∀ c, 40 ≤ c → c < 57 → convertCount c = .temp 700) ∧
  (∀ ca cb t c, (ca, cb, t) ∈ ([(3160, 1800, -200), (1800, 1062, -100), (1062, 648, 0), (648, 407, 100), (407, 263, 200),
      (263, 174, 300), (174, 117, 400), (117, 81, 500), (81, 57, 600)] : List (Nat × Nat × Int)) → cb ≤ c → c < ca →
    convertCount c = .temp (t + ((100 * (ca - c) / (ca - cb) : Nat) : Int))) ∧
  ([3160, 1800, 1062, 648, 407, 263, 174, 117, 81, 57].map convertCount =
    [.temp (-200), .temp (-100), .temp 0, .temp 100, .temp 200, .temp 300, .temp 400, .temp 500, .temp 600, .temp 700]) ∧
  (∀ (s : State) (z : Zone) (count : Nat) (d : Time), s.Powered → (s.seat.zone z).measuring = some d →
    ∃ w, exec (.heaterMeasurementDone z count) s = .next (finish w s.link s.pending) ∧
      w.now = max s.seat.now (d + 5000 + count) ∧ (w.zone z).measuring = none ∧
      (convertCount count = .opened → (w.zone z).fault = .opened ∧ (w.zone z).validRun = 0 ∧
        (w.zone z).t10 = (s.seat.zone z).t10 ∧ w.corrected z = s.seat.corrected z ∧
        (w.zone z).cutoff = (s.seat.zone z).cutoff ∧
        ((s.seat.zone z).fault ≠ .opened → w.Latched .heaterOpen (zoneIndex z) ∧
          w.faults.isLive ⟨.heaterOpen, zoneIndex z⟩ = true ∧ w.faults.isLive ⟨.heaterShort, zoneIndex z⟩ = false)) ∧
      (convertCount count = .short → (w.zone z).fault = .short ∧ (w.zone z).validRun = 0 ∧
        (w.zone z).t10 = (s.seat.zone z).t10 ∧ w.corrected z = s.seat.corrected z ∧
        (w.zone z).cutoff = (s.seat.zone z).cutoff ∧
        ((s.seat.zone z).fault ≠ .short → w.Latched .heaterShort (zoneIndex z) ∧
          w.faults.isLive ⟨.heaterShort, zoneIndex z⟩ = true ∧ w.faults.isLive ⟨.heaterOpen, zoneIndex z⟩ = false)) ∧
      (∀ t, convertCount count = .temp t → (w.zone z).t10 = some t ∧ w.corrected z = some (t + 5 * s.seat.trim z) ∧
        ((s.seat.zone z).fault = .none → (w.zone z).fault = .none) ∧
        ((s.seat.zone z).fault ≠ .none → (s.seat.zone z).validRun ≠ 2 → (w.zone z).fault = (s.seat.zone z).fault ∧
          (w.zone z).validRun = (s.seat.zone z).validRun + 1) ∧
        ((s.seat.zone z).fault ≠ .none → (s.seat.zone z).validRun = 2 → (w.zone z).fault = .none ∧
          (w.zone z).validRun = 0 ∧ w.faults.isLive ⟨.heaterOpen, zoneIndex z⟩ = false ∧
          w.faults.isLive ⟨.heaterShort, zoneIndex z⟩ = false) ∧
        (let tc := t + 5 * s.seat.trim z
        let hot := w.faults.isLive ⟨.heaterOvertemp, zoneIndex z⟩
        ((s.seat.zone z).cutoff = false → 450 ≤ tc → hot = true ∧ w.Latched .heaterOvertemp (zoneIndex z)) ∧
        ((s.seat.zone z).cutoff = true → tc < 430 → hot = false) ∧
        ((if (s.seat.zone z).cutoff then 430 ≤ tc else tc < 450) →
          hot = s.seat.faults.isLive ⟨.heaterOvertemp, zoneIndex z⟩) ∧
        ((s.seat.zone z).cutoff = true ∨ tc < 450 → w.faults.latched = s.seat.faults.latched)) ∧
        (w.zone z).cutoff = (let tc := t + 5 * s.seat.trim z
          if (s.seat.zone z).cutoff then decide (430 ≤ tc) else decide (450 ≤ tc))))

/-- A heater's effective duty never exceeds its requested duty (R151). The duty a zone needs is 0 while the zone may not
heat, and else follows its level and temperature (R148, R150). Where the requested duty is kept at that (StepKeepsDuty),
the requested and the effective duty are 0 while the sensor fault is not NONE, the cut-off is set, T10c is absent or at or
above 45 degrees, the level is 0, or the unit is in PROTECTING or POSTCRASH, and whenever heating is not permitted
(R151). -/
def Obligations.EffectiveDutyBounded : Prop :=
  ∀ (s : Seat) (z : Zone),
    s.effectiveDuty z = min (s.zone z).dutyReq (100 * s.alloc.heatGrant z / Config.fullDraw z) ∧ s.dutyNeeded z ≤ 100 ∧
    ((s.zone z).fault ≠ .none ∨ (s.zone z).cutoff = true ∨ (s.zone z).level = 0 ∨ (s.zone z).t10 = none ∨
      s.ignition ≠ .run ∨ s.pcu.state = .protecting ∨ s.pcu.state = .postcrash ∨ s.band ≠ some .normal ∨
      s.shedComfort = true → s.dutyNeeded z = 0) ∧
    (∀ t, (s.zone z).fault = .none → (s.zone z).cutoff = false → (s.zone z).level ≠ 0 → s.corrected z = some t →
      s.heatingPermitted = true → (s.dutyNeeded z : Int) =
        max 0 (min 100 ((if (s.zone z).level = 1 then 330 else if (s.zone z).level = 2 then 370 else 410) - t))) ∧
    (s.DutyKept → (s.zone z).fault ≠ .none ∨ (s.zone z).cutoff = true ∨ (s.zone z).level = 0 ∨ (s.zone z).t10 = none ∨
      (∃ t ∈ s.corrected z, 450 ≤ t) ∨ s.ignition ≠ .run ∨ s.pcu.state = .protecting ∨ s.pcu.state = .postcrash ∨
      s.band ≠ some .normal ∨ s.shedComfort = true → (s.zone z).dutyReq = 0 ∧ s.effectiveDuty z = 0)

/-- A control interval begins both measurements and the next interval of 1 s; an output period takes the effective duties
and lasts 100 ms (R144, R151). A zone's output is high for the duty × 1 ms from the start of the period, and low while it
is measured or about to be (R144; log entry 20). The first output driven on since the reset, at the start of a period or,
where a measurement held it low there, at the measurement's end, closes the configuration window (R151, R198; log entry
21). After 20 min at level 3 a zone goes to level 2, its timer stops and HEAT_STATE says so (R155). The clock after an
expiry is log entry 2. The bytes are those of 11.2 (R202) as log entry 9 reads it. -/
def Obligations.HeaterIntervals : Prop :=
  (∀ (s : State) (d : Time), s.Powered → s.seat.power.sleepPending = false → s.seat.heat.intervalAt = some d →
    let n := max s.seat.now d
    exec .heaterIntervalStart s = .next (settled { s.seat with
      now := n
      heat := { s.seat.heat with
        intervalAt := some (n + 1000000), cushion := { s.seat.heat.cushion with measuring := some n }
        back := { s.seat.heat.back with measuring := some n } } } s.link [] s.pending)) ∧
  (∀ (s : State) (d : Time), s.Powered → s.seat.power.sleepPending = false → s.seat.heat.periodAt = some d →
    ∃ t, exec .heaterPwmPeriod s = .next t ∧ t.seat.now = max s.seat.now d ∧ t.seat.heat.periodStart = t.seat.now ∧
      t.seat.heat.periodAt = some (t.seat.now + 100000) ∧
      (∀ z, t.seat.zone z = { s.seat.zone z with applied := s.seat.effectiveDuty z }) ∧ t.seat.alloc = s.seat.alloc ∧
      t.seat.motion = s.seat.motion ∧ t.seat.pneu = s.seat.pneu ∧ t.seat.massage = s.seat.massage ∧
      t.seat.pcu = s.seat.pcu ∧ t.seat.store = s.seat.store ∧ t.seat.faults = s.seat.faults ∧
      (let on := t.seat.heaterOutput .cushion || t.seat.heaterOutput .back
      t.seat.heat.driven = (s.seat.heat.driven || on) ∧ t.seat.power = { s.seat.power with
        window := if on && !s.seat.heat.driven then none else s.seat.power.window })) ∧
  (∀ (s : State) (z : Zone) (count : Nat) (d : Time), s.Powered → (s.seat.zone z).measuring = some d →
    ∃ w, exec (.heaterMeasurementDone z count) s = .next (finish w s.link s.pending) ∧
      w.heat.driven = (s.seat.heat.driven || w.heaterOutput z) ∧ w.power = { s.seat.power with
        window := if w.heaterOutput z && !s.seat.heat.driven then none else s.seat.power.window }) ∧
  (∀ (s : State) (z : Zone) (d : Time), s.Powered → (s.seat.zone z).stepDown = some d →
    ∃ w, exec (.stepDownExpiry z) s = .next (finish w s.link s.pending) ∧ w.now = max s.seat.now d ∧
      (w.zone z).level = 2 ∧ (w.zone z).stepDown = none ∧ (w.zone z).held = (s.seat.zone z).held ∧
      w.out.map (·.head) = [.event .heatState] ∧ (w.out.flatMap (·.content)).head? = some 3) ∧
  (∀ (s : Seat) (z : Zone), s.heaterOutput z = true ↔ s.band.isSome ∧ (s.zone z).measuring = none ∧
    (∀ d, s.heat.intervalAt = some d → s.now < d) ∧ s.now < s.heat.periodStart + 1000 * (s.zone z).applied)

/-- A change of a zone's field in COMFORT_REQUEST is a level request: refused in POSTCRASH, held while the ignition is
OFF, else taken as the level in force, with its step-down timer of 20 min at level 3 (R152, R153, R155). The ignition's
change to OFF sets both levels to 0; its change to ACC or RUN takes the held levels (R154). HEAT_STATE is sent with the
reason of R157, once. The bytes are those of 11.2 (R202) as log entry 9 reads it, and the one reason for two zones that of
log entry 11. -/
def Obligations.LevelRequests : Prop :=
  (∀ (s : State) (a b c d e : Byte) (c0 b0 : Nat), s.Awake → s.seat.heat.baseline = some (c0, b0) →
    ∃ w, exec (.comfortRequest [a, b, c, d, e]) s = .next (finish w s.link s.pending) ∧
      (let asked := fun (z : Zone) => if z = .cushion then d.toNat != c0 else e.toNat != b0
      let want := fun (z : Zone) => if z = .cushion then min d.toNat 3 else min e.toNat 3
      let told := (w.out.filter (·.head == .event .heatState)).map (·.content.take 1)
      (∀ z, let old := s.seat.zone z
        let timer := if want z = 3 then some (s.seat.now + 1200000000) else none
        ((w.zone z).level, (w.zone z).held, (w.zone z).stepDown) =
          (if asked z = false ∨ s.seat.pcu.state = .postcrash then (old.level, old.held, old.stepDown)
           else if s.seat.ignition = .off then (old.level, some (want z), old.stepDown)
           else if want z = old.level then (old.level, old.held, if want z = 3 then timer else old.stepDown)
           else (want z, none, timer)) ∧
        (w.zone z).fault = old.fault ∧ (w.zone z).cutoff = old.cutoff ∧ (w.zone z).t10 = old.t10) ∧
      told = (if asked .cushion = false ∧ asked .back = false then []
        else if s.seat.pcu.state = .postcrash then [[7]]
        else if s.seat.ignition = .off then [[2]]
        else if (asked .cushion = true ∧ want .cushion ≠ (s.seat.zone .cushion).level) ∨
          (asked .back = true ∧ want .back ≠ (s.seat.zone .back).level) then [[0]]
        else []))) ∧
  (∀ (s : State) (i v x : Byte), s.Awake → s.seat.store.keyWindow = none →
    ∃ w, exec (.vehicleState [i, v, x]) s = .next (finish w s.link s.pending) ∧
      (let on := i = 1 ∨ i = 2
      let told := (w.out.filter (·.head == .event .heatState)).map (·.content.take 1)
      (s.seat.ignition ≠ .off → ¬on → (∀ z, (w.zone z).level = 0 ∧ (w.zone z).stepDown = none ∧
        (w.zone z).held = (s.seat.zone z).held) ∧
        told = if (s.seat.zone .cushion).level = 0 ∧ (s.seat.zone .back).level = 0 then [] else [[4]]) ∧
      (s.seat.ignition = .off → on → (∀ z, (w.zone z).held = none ∧ ∀ l, (s.seat.zone z).held = some l →
          (w.zone z).level = l ∧ (w.zone z).stepDown = if l = 3 then some (s.seat.now + 1200000000) else none) ∧
        (∀ z, (s.seat.zone z).held = none → (w.zone z).level = (s.seat.zone z).level) ∧
        told = if ∃ z ∈ [Zone.cushion, Zone.back], (w.zone z).level ≠ (s.seat.zone z).level then [[2]] else []) ∧
      ((s.seat.ignition = .off ↔ ¬on) → ∀ z, (w.zone z).level = (s.seat.zone z).level ∧
        (w.zone z).held = (s.seat.zone z).held) ∧ (∀ z, (w.zone z).fault = (s.seat.zone z).fault)))

/-! ### Chapter 8: pre-crash -/

/-- A PRECRASH frame is discarded for a level above 2 or the last counter; otherwise it sets the PRECRASH record, FRESH
for 100 ms after ALERT and 1000 ms after NONE or CRASH, and the unit acts on its level by its state (R159, R160, R161).
Entering PROTECTING from NORMAL it takes the snapshot (R162; for states whose held RESTORE sequence, if any, stands in
RESTORING, which StepKeepsRestoring keeps), holds the bolsters and pauses a running session (R133). A change of state
sends one PCU_STATE with new and old state, cause, snapshot and marks, and a level that changes none sends none (R174);
its bytes are those of 11.2 (R202) as log entry 9 reads it, and its marks are those of log entries 16 and 51. -/
def Obligations.PrecrashDelivered : Prop :=
  ∀ (s : State) (l c : Byte), s.Awake →
    let group := fun (k : Option Snapshot) => match k with
      | none => ([0, 0, 0, 0, 0] : List Byte)
      | some k => [1] ++ mapBytes 1 (k.entries.map (·.1.index.val)) ++ [BitVec.ofNat 8 k.bolster,
          BitVec.ofNat 8 k.massage.code, BitVec.ofNat 8 k.program]
    let report := fun (p : Pcu) (old : PcuState) (cause : Byte) => (⟨.event .pcuState,
      [BitVec.ofNat 8 p.state.code, BitVec.ofNat 8 old.code, cause] ++ group p.snapshot ++
        [if p.protectMark = true then 1 else 0, if p.restoreMark = true then 1 else 0]⟩ : Item)
    (2 < l.toNat ∨ s.seat.peers.precrash.counter = some (c.toNat % 16) →
      exec (.precrash [l, c]) s = .next (settled s.seat s.link [] s.pending)) ∧
    (∀ v, PrecrashLevel.ofNat? l.toNat = some v → s.seat.peers.precrash.counter ≠ some (c.toNat % 16) →
      ∃ w, exec (.precrash [l, c]) s = .next (finish w s.link s.pending) ∧
        w.peers = { s.seat.peers with precrash := ⟨v, some (c.toNat % 16),
          some (s.seat.now + if v = .alert then 100000 else 1000000)⟩ } ∧
        w.pcu.state = (if s.seat.pcu.state = .postcrash then .postcrash else if v = .crash then .postcrash
          else if v = .alert then .protecting else if s.seat.pcu.state = .protecting then .holding
          else s.seat.pcu.state) ∧
        w.out.filter (·.head == .event .pcuState) = (if w.pcu.state = s.seat.pcu.state then []
          else [report w.pcu s.seat.pcu.state (if v = .crash then 6 else if v = .alert then 0 else 1)]) ∧
        (w.pcu.state ≠ s.seat.pcu.state → v ≠ .alert → w.pcu.protectMark = s.seat.pcu.protectMark) ∧
        w.pcu.restoreMark = s.seat.pcu.restoreMark ∧
        (s.seat.pcu.state ≠ .postcrash → v = .crash → w.pcu.snapshot = none ∧ w.pcu.holdEnd = none ∧
          w.pcu.holdExpired = false ∧ w.pneu.hold = .postcrash ∧ w.motion.sequence = none ∧ w.massage.state = .off ∧
          ∀ z, (w.zone z).level = 0) ∧
        (s.seat.pcu.state = .normal → v = .alert → w.pcu.protectMark = true ∧ w.pneu.hold = .protect ∧
          (s.seat.RestoreHeld → w.pcu.snapshot = some s.seat.takeSnapshot)) ∧
        (s.seat.pcu.state ≠ .postcrash → s.seat.pcu.state ≠ .protecting → v = .alert → s.seat.massage.state = .running →
          s.seat.massage.byProtect = false → w.massage.state = .paused ∧ w.massage.byProtect = true) ∧
        (s.seat.pcu.state = .protecting → v = .none → w.pcu.holdEnd = some (s.seat.now + 2000000) ∧
          w.pcu.holdExpired = false ∧ w.pcu.snapshot = s.seat.pcu.snapshot))

/-- A stale PRECRASH delivers NONE and keeps its counter, and sets PEER_STALE of PRECRASH where the ignition was not OFF
(R159, R160, R179); the hold timer leads to RESTORING, or, while a protect sequence is held, to the hold-expired mark
(R166). The end of the protect sequence clears its mark, and leads to RESTORING where the hold timer has expired; the end
of the RESTORE sequence leads to NORMAL (R163, R166, R169, R170). Each change of state sends one PCU_STATE with new and
old state, cause, snapshot and marks, the marks as log entry 16 has them (R174). Entering RESTORING, PROTECT leaves the
pause causes and a paused session takes the program of the snapshot, and resumes with its step 0 if no other cause is left
(R133, R140, R169). POSTCRASH_RELEASE is refused STATE outside POSTCRASH and while a fresh CRASH stands; otherwise the
unit returns to NORMAL (R173). The clock after an expiry is log entry 2. The bytes are those of 11.2 (R202) as log entry 9
reads it. -/
def Obligations.PrecrashTimers : Prop :=
  let group := fun (k : Option Snapshot) => match k with
    | none => ([0, 0, 0, 0, 0] : List Byte)
    | some k => [1] ++ mapBytes 1 (k.entries.map (·.1.index.val)) ++ [BitVec.ofNat 8 k.bolster,
        BitVec.ofNat 8 k.massage.code, BitVec.ofNat 8 k.program]
  let report := fun (p : Pcu) (old : PcuState) (cause : Byte) => (⟨.event .pcuState,
    [BitVec.ofNat 8 p.state.code, BitVec.ofNat 8 old.code, cause] ++ group p.snapshot ++
      [if p.protectMark = true then 1 else 0, if p.restoreMark = true then 1 else 0]⟩ : Item)
  let told := fun (w : Work) => w.out.filter (·.head == .event .pcuState)
  (∀ (s : State) (d : Time), s.Powered → s.seat.peers.precrash.staleAt = some d →
    ∃ w, exec .precrashStale s = .next (finish w s.link s.pending) ∧ w.now = max s.seat.now d ∧
      w.peers = { s.seat.peers with precrash := ⟨.none, s.seat.peers.precrash.counter, none⟩ } ∧
      w.pcu.state = (if s.seat.pcu.state = .protecting then .holding else s.seat.pcu.state) ∧
      (s.seat.pcu.state = .protecting → w.pcu.holdEnd = some (w.now + 2000000) ∧ w.pcu.holdExpired = false ∧
        told w = [report w.pcu .protecting 2]) ∧
      (s.seat.pcu.state ≠ .protecting → w.pcu = s.seat.pcu ∧ told w = []) ∧
      (s.seat.ignition = .off → w.faults = s.seat.faults) ∧
      (s.seat.ignition ≠ .off → w.Latched .peerStale 0 ∧ w.faults.isLive ⟨.peerStale, 0⟩ = true)) ∧
  (∀ (s : State) (d : Time), s.Powered → s.seat.pcu.holdEnd = some d →
    ∃ w, exec .pcuHoldExpiry s = .next (finish w s.link s.pending) ∧ w.now = max s.seat.now d ∧ w.pcu.holdEnd = none ∧
      (s.seat.pcu.protectMark = true → w.pcu.holdExpired = true ∧ w.pcu.state = s.seat.pcu.state ∧ told w = []) ∧
      (s.seat.pcu.protectMark = false → w.pcu.holdExpired = false ∧ w.pcu.state = .restoring ∧
        w.pcu.restoreMark = true ∧ told w = [report w.pcu s.seat.pcu.state 3]) ∧
      (∀ k, s.seat.pcu.protectMark = false → s.seat.pcu.snapshot = some k → k.massage = .running ∨ k.massage = .paused →
        s.seat.massage.state = .paused → s.seat.massage.byProtect = true → s.seat.massage.stepEnded = true →
        w.massage.byProtect = false ∧ w.massage.program = k.program ∧ w.massage.pendingProgram = none ∧
        (s.seat.massage.byPump = true ∨ s.seat.massage.byShed = true → w.massage.state = .paused ∧
          w.massage.byPump = s.seat.massage.byPump ∧ w.massage.byShed = s.seat.massage.byShed) ∧
        (s.seat.massage.byPump = false → s.seat.massage.byShed = false → w.massage.state = .running ∧
          (k.program ≤ 4 → ∃ st, w.massage.step = some st ∧ st.index = some 0)))) ∧
  (∀ s : State, s.Awake →
    (s.seat.pcu.state ≠ .postcrash ∨ (s.seat.peers.precrash.staleAt.isSome ∧ s.seat.peers.precrash.level = .crash) →
      exec .postcrashRelease s = .next (settled s.seat s.link [⟨.answer 10, [5, 255]⟩] s.pending)) ∧
    (s.seat.pcu.state = .postcrash → ¬(s.seat.peers.precrash.staleAt.isSome ∧ s.seat.peers.precrash.level = .crash) →
      ∃ w, exec .postcrashRelease s = .next (finish w s.link s.pending) ∧ w.pcu.state = .normal ∧ w.pcu.snapshot = none ∧
        w.pneu.hold = .none ∧ w.out.head? = some ⟨.answer 10, [0, 255]⟩ ∧ told w = [report w.pcu .postcrash 7])) ∧
  (∀ (w : Work) (code : Code),
    let v := w.pcuSequenceDone .restore code
    v.pcu.restoreMark = false ∧
      (w.pcu.state = .restoring → v.pcu.state = .normal ∧ v.pcu.snapshot = none ∧
        told v = told w ++ [report v.pcu .restoring 4]) ∧
      (w.pcu.state ≠ .restoring → v.pcu = { w.pcu with restoreMark := false } ∧ v.out = w.out)) ∧
  (∀ (w : Work) (code : Code),
    let v := w.pcuSequenceDone .protect code
    (code = .preempted ∧ w.pcu.state = .protecting → v = w) ∧
    (¬(code = .preempted ∧ w.pcu.state = .protecting) → v.pcu.protectMark = false ∧
      (w.pcu.state = .holding ∧ w.pcu.holdExpired = true → v.pcu.state = .restoring ∧ v.pcu.restoreMark = true ∧
        v.pcu.holdExpired = false ∧ told v = told w ++ [report v.pcu .holding 3]) ∧
      (¬(w.pcu.state = .holding ∧ w.pcu.holdExpired = true) → v.pcu = { w.pcu with protectMark := false } ∧
        v.out = w.out)))

/-! ### Chapter 9: the link -/

/-- A loaded frame ends sent, lost or failed (R180). Sent, it leaves its source, the queue head by its segments (R202),
and the tally falls by 1; a status clears events_lost it carried unless an item was lost since (R182); lost or failed it
stays pending, and a failure raises the tally by 8, at 256 taking the link off for 500 ms with its fault live and latched;
at their end it is on again with tally 0 and its fault no longer live (R181). The status falls due every 100 ms (R183).
That an outcome with no frame loaded changes nothing, and the clock after an expiry, are log entry 2's choices; the bytes
are those of 11.2 (R202) as log entry 9 reads it. That the LINK_OFF timer runs on in SLEEP is log entry 53. -/
def Obligations.TransmitterByR180 : Prop :=
  (∀ (s : State) (c : Instr), s.link.loaded = none → c = .txSent ∨ c = .txArbitrationLost ∨ c = .txFailed →
    exec c s = .next s) ∧
  (∀ (s : State) (f : Loaded), s.Powered → s.seat.power.sleepPending = false → s.link.loaded = some f →
    (∀ i rest, f.source = .queue → s.link.queue = i :: rest → exec .txSent s = .next (settled s.seat { s.link with
      loaded := none, tally := s.link.tally - 1
      queue := if s.link.sent + 1 < max 1 ((i.content.length + 5) / 6) then i :: rest else rest
      sent := if s.link.sent + 1 < max 1 ((i.content.length + 5) / 6) then s.link.sent + 1 else 0 } [] s.pending)) ∧
    (f.source = .status → exec .txSent s = .next (settled s.seat { s.link with
      loaded := none, tally := s.link.tally - 1, statusDue := false
      lost := s.link.lost && !(f.lostShown && !s.link.lostSinceLoad) } [] s.pending)) ∧
    (∀ e, f.source = .exporting → s.seat.store.exporting = some e → exec .txSent s = .next (settled
      { s.seat with store := { s.seat.store with exporting := if e.next < 3 then some ⟨e.bytes, e.next + 1⟩ else none } }
      { s.link with loaded := none, tally := s.link.tally - 1 } [] s.pending)) ∧
    (exec .txArbitrationLost s = .next (settled s.seat { s.link with loaded := none } [] s.pending)) ∧
    (s.link.tally + 8 < 256 → exec .txFailed s =
      .next (settled s.seat { s.link with loaded := none, tally := s.link.tally + 8 } [] s.pending)) ∧
    (256 ≤ s.link.tally + 8 → ∃ w, exec .txFailed s = .next (finish w { s.link with
        loaded := none, tally := s.link.tally + 8, offUntil := some (s.seat.now + 500000) } s.pending) ∧
      w.Latched .linkOff 0 ∧ w.faults.isLive ⟨.linkOff, 0⟩ = true ∧ w.inbox = [] ∧
      w.toSeat = { s.seat with faults := w.faults } ∧
      (s.seat.Latched .linkOff 0 → w.out = []) ∧
      (¬s.seat.Latched .linkOff 0 →
        w.out = [⟨.event .fault, [11, 0] ++ word2 (s.seat.faults.latched.length + 1)⟩]))) ∧
  (∀ (s : State) (d : Time), s.Powered → s.seat.power.sleepPending = false → s.link.offUntil = some d →
    exec .linkOffExpiry s = .next (settled { s.seat with
      now := max s.seat.now d, faults := s.seat.faults.clearLive ⟨.linkOff, 0⟩ }
      { s.link with tally := 0, offUntil := none } [] s.pending)) ∧
  (∀ (s : State) (d : Time), s.Powered → s.seat.power.sleepPending = false → s.link.statusAt = some d →
    exec .statusTimerExpiry s = .next (settled { s.seat with now := max s.seat.now d }
      { s.link with statusDue := true, statusAt := some (max s.seat.now d + 100000) } [] s.pending))

/-- While the link is on and no frame is loaded, the arbiter of an awake part loads the pending frame of lowest
identifier: an answer at the head of the event queue on B+1, a due status on B+2, an event at the head on B+3, the next
frame of an export on B+4 (R180, 9.1); every step ends with it (`finish`, `settled`). A segment carries the code of its
item, its number and six bytes of content (11.2, R202). A SEAT_STATUS carries the fields of R184 as they stand, in the
bits of 11.3. That nothing is loaded in SLEEP is log entry 58. -/
def Obligations.ArbiterAndStatus : Prop :=
  (∀ (s : Seat) (l : Link),
    let base := 0x640 + 8 * s.power.node.val
    (s.band = none ∨ s.power.mode = .sleep ∨ l.offUntil.isSome ∨ l.loaded.isSome → l.load s = l) ∧
    (s.band.isSome → s.power.mode ≠ .sleep → l.offUntil = none → l.loaded = none →
      (∀ i c, l.queue.head? = some i → i.head = .answer c →
        l.load s = { l with loaded := some ⟨.queue, base + 1, i.segment l.sent, false⟩, lostSinceLoad := false }) ∧
      ((∀ i ∈ l.queue.head?, ∃ k, i.head = .event k) → l.statusDue = true →
        l.load s = { l with loaded := some ⟨.status, base + 2, s.statusBytes l.lost, l.lost⟩, lostSinceLoad := false }) ∧
      (∀ i k, l.queue.head? = some i → i.head = .event k → l.statusDue = false →
        l.load s = { l with loaded := some ⟨.queue, base + 3, i.segment l.sent, false⟩, lostSinceLoad := false }) ∧
      (∀ e, l.queue = [] → l.statusDue = false → s.store.exporting = some e → e.bytes.length = 28 → e.next ≤ 3 →
        l.load s = { l with
          loaded := some ⟨.exporting, base + 4, BitVec.ofNat 8 e.next :: (e.bytes.drop (7 * e.next)).take 7, false⟩
          lostSinceLoad := false }) ∧
      (l.queue = [] → l.statusDue = false → s.store.exporting = none → l.load s = l))) ∧
  (∀ (i : Item) (n : Nat), n < i.segments → i.segments = max 1 ((i.content.length + 5) / 6) ∧ (i.segment n).length = 8 ∧
    (i.segment n)[0]? = some (match i.head with
      | .answer c => BitVec.ofNat 8 c
      | .event k => BitVec.ofNat 8 k.code) ∧
    (i.segments ≤ 15 → (i.segment n)[1]? = some (BitVec.ofNat 8 (16 * n + i.segments))) ∧
    ∀ k, k < 6 → (i.segment n)[k + 2]? = some (i.content.getD (6 * n + k) 0)) ∧
  (∀ (s : Seat) (lost : Bool), s.band.isSome → s.power.mode ≠ .sleep → s.alloc.total ≤ 400 → s.alloc.queue.length ≤ 8 →
    s.massage.program ≤ 7 → s.InRange → s.effectiveDuty .cushion ≤ 100 → s.effectiveDuty .back ≤ 100 →
    let b := s.statusBytes lost
    let byteAt := fun (i : Nat) => (b.getD i 0).toNat
    let bit := fun (i k : Nat) => (b.getD i 0).getLsbD k
    b.length = 8 ∧ byteAt 0 * 256 + byteAt 1 = s.alloc.total ∧ byteAt 2 / 16 = s.alloc.queue.length ∧
      s.band.map Band.code = some (byteAt 2 / 4 % 4) ∧ (bit 2 1 = false ∧ bit 2 0 = (s.power.mode == .runOn)) ∧
      byteAt 3 / 32 = s.pcu.state.code ∧ bit 3 4 = s.power.window.isSome ∧ bit 3 3 = s.store.storeWindow.isSome ∧
      bit 3 2 = !s.faults.latched.isEmpty ∧ bit 3 1 = lost ∧ bit 3 0 = false ∧
      byteAt 4 / 64 = s.massage.state.code ∧ byteAt 4 / 8 % 8 = s.massage.program ∧ byteAt 4 % 8 = 0 ∧
      byteAt 5 / 16 = s.massage.queue.length ∧ byteAt 5 / 4 % 4 = s.heat.cushion.level ∧ byteAt 5 % 4 = s.heat.back.level ∧
      byteAt 6 = s.effectiveDuty .cushion ∧ byteAt 7 = s.effectiveDuty .back)

/-- CLEAR_FAULTS clears the flags whose live condition is absent and counts the flags cleared and left (R188). Every axis
in FAULT becomes IDLE; one whose coast has not ended loses its pending fault mark and enters IDLE at coast end; the motion
controller adds no result of its own (R42). The bytes are those of 11.2 (R202) as log entry 9 reads it. -/
def Obligations.ClearFaultsByR42 : Prop :=
  ∀ s : State, s.Awake →
    let left := s.seat.faults.latched.filter fun f => s.seat.faults.live.contains f
    let t := settled { s.seat with
        faults := { s.seat.faults with latched := left }
        motion := { s.seat.motion with axes := s.seat.motion.axes.map fun r =>
          { r with drive := if r.drive = .fault then .idle else r.drive, pendingFault := false } } } s.link
      [⟨.answer 11, [0, 255, BitVec.ofNat 8 (s.seat.faults.latched.length - left.length), BitVec.ofNat 8 left.length]⟩] s.pending
    exec .clearFaults s = .next t ∧
    (∀ a, (t.seat.axis a).drive ≠ .fault ∧ (t.seat.axis a).pendingFault = false ∧
      ((s.seat.axis a).drive = .fault → (t.seat.axis a).drive = .idle)) ∧
    (∀ (a : Axis) (d : Time), (s.seat.axis a).drive = .coasting → (s.seat.axis a).phaseEnd = some d →
      (s.seat.axis a).pendingFault = true → (s.seat.axis a).op = none → (s.seat.axis a).order = none →
      (s.seat.axis a).resetDeadband = false →
      ∃ w, exec (.coastEnd a) t = .next (finish w t.link t.pending) ∧ (w.axis a).drive = .idle)

/-! ### Chapter 10: power, configuration and RESTART -/

/-- At the end of the run-on timer the part enters SLEEP if motion is quiet, no write is in flight and the pre-crash unit
is NORMAL or POSTCRASH: it keeps positions, slots and configuration, the queues and grants are gone and the peer view is
stale; otherwise SLEEP is pending (R195, R22, R178, R182, R183). The configuration window ends with its timer (R198). The
clock after an expiry is log entry 2. -/
def Obligations.PowerTimers : Prop :=
  (∀ (s : State) (d : Time), s.Powered → s.seat.power.runOn = some d →
    ∃ t, exec .runOnTimerExpiry s = .next t ∧ t.seat.now = max s.seat.now d ∧
      t.seat.power.config = s.seat.power.config ∧ t.seat.store.slots = s.seat.store.slots ∧
      (∀ a, (t.seat.axis a).position = (s.seat.axis a).position ∧
        (t.seat.axis a).referenced = (s.seat.axis a).referenced) ∧
      (s.seat.motionQuiet = true ∧ s.seat.store.write = none ∧
          (s.seat.pcu.state = .normal ∨ s.seat.pcu.state = .postcrash) →
        t.seat.power.mode = .sleep ∧ t.seat.power.runOn = none ∧ t.seat.power.sleepPending = false ∧
          t.seat.power.window = none ∧ t.seat.alloc = Alloc.reset ∧ t.link.queue = [] ∧ t.link.loaded = none ∧
          t.link.statusDue = false ∧ t.link.statusAt = none ∧ t.link.lost = (s.link.lost || !s.link.queue.isEmpty) ∧
          t.seat.peers.energy.staleAt = none ∧ t.seat.shedComfort = false ∧ t.seat.othersUse = 0 ∧
          (∀ n, (t.seat.peers.stations.get n).staleAt = none) ∧
          t.seat.peers.vehicle = ⟨⟨.off, none, false, false⟩, none⟩ ∧ t.seat.peers.memoryKeysUntil = none ∧
          t.seat.peers.comfort.staleAt = none ∧ t.seat.peers.precrash = ⟨.none, none, none⟩ ∧
          t.seat.ignition = .off ∧ t.seat.pcu.state = s.seat.pcu.state ∧ t.seat.pneu.queue = [] ∧
          t.seat.store.storeWindow = none ∧ t.seat.store.keyWindow = none ∧ t.seat.pneu.manifold = .idle) ∧
      (¬(s.seat.motionQuiet = true ∧ s.seat.store.write = none ∧
          (s.seat.pcu.state = .normal ∨ s.seat.pcu.state = .postcrash)) →
        t.seat.power = { s.seat.power with runOn := none, sleepPending := true } ∧ t.seat.motion = s.seat.motion ∧
          t.seat.alloc = s.seat.alloc ∧ t.seat.peers = s.seat.peers)) ∧
  (∀ (s : State) (d : Time), s.Powered → s.seat.power.sleepPending = false → s.seat.power.window = some d →
    exec .configWindowExpiry s = .next (settled { s.seat with
      now := max s.seat.now d, power := { s.seat.power with window := none } } s.link [] s.pending))

/-- CONFIGURE is tested in the order of R199; refused, it answers and changes nothing; taken, it answers first, closes the
window and makes all seven parameters the configuration in force, with F and fallback of R4 and the records of the axes
whose channel moves as R25 gives them: unreferenced at 0, IDLE or still in FAULT, last direction LOW, tally 0, no
intervals, no operation; an axis that keeps its channel keeps its record, but for the mark of a claim that admission lets
it make. The bytes are those of 11.2 (R202) as log entry 9 reads it. -/
def Obligations.ConfigureByR199 : Prop :=
  ∀ (s : State) (v f b n r ct bt : Byte), s.Awake →
    let refused := fun (x : Byte) =>
      exec (.configure v f b n r ct bt) s = .next (settled s.seat s.link [⟨.answer 13, [x, 255]⟩] s.pending)
    if s.seat.power.window = none then refused 3
    else if h : v.toNat < 4 ∧ 10 ≤ f.toNat ∧ f.toNat ≤ 35 ∧ b.toNat ≤ 40 ∧ 1 ≤ n.toNat ∧ n.toNat ≤ 3 ∧ r.toNat ≤ 1 ∧
        -7 ≤ ct.toInt ∧ ct.toInt ≤ 7 ∧ -7 ≤ bt.toInt ∧ bt.toInt ≤ 7 then
      if v.toNat ≠ s.seat.variant.val ∧ ∃ a ∈ Axis.all, (s.seat.axis a).drive ≠ .idle ∧ (s.seat.axis a).drive ≠ .fault then
        refused 4
      else ∃ w, exec (.configure v f b n r ct bt) s = .next (finish w s.link s.pending) ∧
        w.out.head? = some ⟨.answer 13, [0, 255]⟩ ∧ w.power.window = none ∧
        w.power.config = ⟨⟨v.toNat, h.1⟩, f.toNat, b.toNat, n.toNat, r.toNat == 1, ct.toInt, bt.toInt⟩ ∧
        w.fuseCeiling = 10 * f.toNat ∧ w.fallback = 10 * b.toNat ∧
        (∀ a, Config.channelMap s.seat.variant a = Config.channelMap ⟨v.toNat, h.1⟩ a →
          (w.axis a).shadow = (s.seat.axis a).shadow ∧ (s.seat.motion.admission = [] → w.axis a = s.seat.axis a)) ∧
        (∀ a, Config.channelMap s.seat.variant a ≠ Config.channelMap ⟨v.toNat, h.1⟩ a →
          (w.axis a).position = 0 ∧ (w.axis a).referenced = false ∧ (w.axis a).lastDir = .low ∧
            (w.axis a).drive = (if (s.seat.axis a).drive = .fault then .fault else .idle) ∧ (w.axis a).tally = 0 ∧
            (w.axis a).intervals = [] ∧ ((Config.channelMap s.seat.variant a).isSome → (w.axis a).op = none)) ∧
        ∀ f ∈ s.seat.faults.latched, f ∈ w.faults.latched
    else refused 2

/-- RESTART is answered STATE while PROTECTING; otherwise it answers first, ends every operation outside a sequence
RESTARTED, in axis index order, and the held sequence RESTARTED (R70, R76), stops every vent (R122), empties allocator,
manifold and windows, and reopens the configuration window, keeping what R200 names. The pre-crash unit keeps its state,
hold timer and marks (8.9, R175); of its snapshot, entries may go of axes whose RESTORE member ends OBSTRUCTED (R169). The
bytes are those of 11.2 (R202) as log entry 9 reads it. That AXIS_DONE says of a corrective move that still waits that it
was made is log entry 34. `w` is the work before the pre-crash unit takes the end of a held sequence: that it does so only
after every block has taken its RESTART values, so that a RESTORE sequence it then asks for survives, is log entry 60. -/
def Obligations.RestartByR200 : Prop :=
  ∀ s : State, s.Awake →
    (s.seat.pcu.state = .protecting →
      exec .restart s = .next (settled s.seat s.link [⟨.answer 14, [5, 255]⟩] s.pending)) ∧
    (s.seat.pcu.state ≠ .protecting →
      ∃ w, exec .restart s = .next (finish w s.link.restart s.pending) ∧ w.out.head? = some ⟨.answer 14, [0, 255]⟩ ∧
        (∀ a, (∀ o, (s.seat.axis a).op = some o → o.member = false) → (w.axis a).op = none) ∧
        (∀ a o, (s.seat.axis a).op = some o → o.member = false → axisDoneItem a o.source o.kind o.tag
          (if o.obstructed then .obstructed else .restarted) (w.axis a) o.corrected ∈ w.out) ∧
        (w.out.filter (·.head == .event .axisDone)).map (·.content.take 1) = (Axis.all.filter fun a =>
          (s.seat.axis a).op.any (!·.member)).map (fun a => [BitVec.ofNat 8 a.index.val]) ∧
        (∀ q, s.seat.motion.sequence = some q → (∀ m ∈ q.members, m.state = .active → (w.axis m.axis).op = none) ∧
          ∃ i ∈ w.out, i.head = .event .sequenceDone ∧
            i.content.take 3 = [BitVec.ofNat 8 q.kind.code, BitVec.ofNat 8 q.tag, 12]) ∧
        (∀ c, (w.cell c).state ≠ .venting ∧ ((s.seat.cell c).state = .venting →
          (∀ f, s.seat.pneu.manifold = .pumping f → c ∉ f.cells) → (∀ d, s.seat.pneu.manifold ≠ .measuring c d) →
          (w.cell c).state = .holding ∧ (w.cell c).last = none ∧ (w.cell c).ventEnd = none)) ∧
        (∀ a, (w.axis a).position = (s.seat.axis a).position ∧ (w.axis a).referenced = (s.seat.axis a).referenced ∧
          ((s.seat.axis a).drive = .fault → (w.axis a).drive = .fault)) ∧
        w.motion.sequence = none ∧ w.motion.admission = [] ∧ w.alloc = Alloc.reset ∧ w.pneu.manifold = .idle ∧
        w.pneu.queue = [] ∧ w.massage.state = .off ∧ (∀ z, (w.zone z).level = 0 ∧ (w.zone z).held = none) ∧
        w.store = { s.seat.store with
          storeWindow := none, keyWindow := none, armed := false, returnPoint := none, assembly := none
          exporting := none } ∧
        (∀ p, (s.seat.switch p).pressed = true → (w.switch p).cond = .heldAtReset) ∧
        (∀ p, (s.seat.switch p).pressed = false → (w.switch p).cond = (s.seat.switch p).cond) ∧
        w.switches.conflicts = Vector.replicate 7 false ∧ w.power.window = some (s.seat.now + 10000000) ∧
        w.power.config = s.seat.power.config ∧ w.power.mode = s.seat.power.mode ∧
        (s.seat.power.mode = .runOn →
          w.power.runOn = some (s.seat.now + if s.seat.power.config.longRunOn then 900000000 else 180000000)) ∧
        w.pcu = { s.seat.pcu with snapshot := w.pcu.snapshot } ∧
        ((∀ q, s.seat.motion.sequence = some q → q.kind ≠ .restore) → w.pcu = s.seat.pcu) ∧
        w.band = s.seat.band ∧ w.peers = s.seat.peers ∧ w.faults.latched = s.seat.faults.latched)
end

