-- ==== Sys2Proof/Laws/Allocator.lean ====
section
/-!
SUPPORT. The allocator: sums of grants, and what taking, giving and queueing keep of its law.
-/
namespace Sys2Proof.Machine

open Sys2Proof

/-! ### Sums -/

@[simp] theorem grantSum_nil : grantSum [] = 0 := rfl

@[simp] theorem grantSum_cons (g : Grant) (l : List Grant) : grantSum (g :: l) = g.amount + grantSum l := by
  simp [grantSum]

@[simp] theorem grantSum_append (l m : List Grant) : grantSum (l ++ m) = grantSum l + grantSum m := by
  simp [grantSum]

theorem grantSum_filter_le (p : Grant → Bool) (l : List Grant) : grantSum (l.filter p) ≤ grantSum l := by
  induction l with
  | nil => exact Nat.le_refl _
  | cons g l ih =>
    simp only [List.filter_cons]
    split <;> simp only [grantSum_cons] <;> omega

/-- The grants that pass a test and those that fail it are all the grants. -/
theorem grantSum_split (p : Grant → Bool) (l : List Grant) :
    grantSum (l.filter p) + grantSum (l.filter fun g => !p g) = grantSum l := by
  induction l with
  | nil => rfl
  | cons g l ih =>
    simp only [List.filter_cons]
    cases p g <;> simp only [grantSum_cons, Bool.not_true, Bool.not_false, if_true, Bool.false_eq_true, if_false] <;> omega

/-- A grant of the list is at most the sum. -/
theorem le_grantSum {g : Grant} {l : List Grant} (h : g ∈ l) : g.amount ≤ grantSum l := by
  induction l with
  | nil => cases h
  | cons x l ih =>
    rw [grantSum_cons]
    cases h with
    | head => omega
    | tail _ h => have := ih h; omega

/-! ### The queue -/

/-- Queueing adds the entry and keeps the others (R14). -/
theorem enqueueClaim_perm (c : Claim) (q : List Claim) : (enqueueClaim c q).Perm (c :: q) := by
  unfold enqueueClaim
  rw [List.append_assoc, List.singleton_append]
  exact List.perm_middle.trans (by rw [List.takeWhile_append_dropWhile])

theorem mem_enqueueClaim {c e : Claim} {q : List Claim} : e ∈ enqueueClaim c q ↔ e = c ∨ e ∈ q := by
  rw [(enqueueClaim_perm c q).mem_iff, List.mem_cons]

/-- Queueing keeps the queue ordered by class (R14). -/
theorem enqueueClaim_ordered (c : Claim) (q : List Claim) (h : q.Pairwise fun x y => y.cls.rank ≤ x.cls.rank) :
    (enqueueClaim c q).Pairwise fun x y => y.cls.rank ≤ x.cls.rank := by
  induction q with
  | nil => exact List.pairwise_singleton _ c
  | cons e q ih =>
    rw [List.pairwise_cons] at h
    by_cases he : c.cls.rank ≤ e.cls.rank
    · have hq : enqueueClaim c (e :: q) = e :: enqueueClaim c q := by simp [enqueueClaim, he]
      rw [hq, List.pairwise_cons]
      refine ⟨fun x hx => ?_, ih h.2⟩
      rcases mem_enqueueClaim.1 hx with rfl | hx
      · exact he
      · exact h.1 x hx
    · have hq : enqueueClaim c (e :: q) = c :: e :: q := by simp [enqueueClaim, he]
      rw [hq, List.pairwise_cons, List.pairwise_cons]
      refine ⟨fun x hx => ?_, h⟩
      rcases List.mem_cons.1 hx with rfl | hx
      · omega
      · have := h.1 x hx; omega

/-! ### Heaters -/

/-- The heaters are trimmed to the limit where they can be, and nothing else changes (R13, R19). -/
theorem Allocating.trimHeaters_total (limit : Nat) (a : Allocating) :
    (a.trimHeaters limit).total = max (grantSum a.grants) (min limit a.total) := by
  simp only [Allocating.trimHeaters, Alloc.total]
  omega

@[simp] theorem Allocating.trimHeaters_grants (limit : Nat) (a : Allocating) :
    (a.trimHeaters limit).grants = a.grants := rfl

@[simp] theorem Allocating.trimHeaters_queue (limit : Nat) (a : Allocating) :
    (a.trimHeaters limit).queue = a.queue := rfl

/-! ### Giving and revoking -/

@[simp] theorem Allocating.give_total (c : Claim) (a : Allocating) : (a.give c).total = a.total + c.amount := by
  simp [Allocating.give, Alloc.total]; omega

/-- Revoking takes exactly the grants of the claimant, and gives no new one (R20). -/
@[simp] theorem Allocating.revoke_grants (env : AllocEnv) (cause : RevokeCause) (g : Grant) (a : Allocating) :
    (a.revoke env cause g).grants = a.grants.filter (·.load != g.load) := by
  unfold Allocating.revoke
  dsimp only
  split <;> rfl

@[simp] theorem Allocating.revoke_cushion (env : AllocEnv) (cause : RevokeCause) (g : Grant) (a : Allocating) :
    (a.revoke env cause g).cushionGrant = a.cushionGrant := by
  unfold Allocating.revoke
  dsimp only
  split <;> rfl

@[simp] theorem Allocating.revoke_back (env : AllocEnv) (cause : RevokeCause) (g : Grant) (a : Allocating) :
    (a.revoke env cause g).backGrant = a.backGrant := by
  unfold Allocating.revoke
  dsimp only
  split <;> rfl

theorem Allocating.revoke_total_le (env : AllocEnv) (cause : RevokeCause) (g : Grant) (a : Allocating) :
    (a.revoke env cause g).total ≤ a.total := by
  have := grantSum_filter_le (fun x => x.load != g.load) a.grants
  simp only [Alloc.total, Allocating.revoke_grants, Allocating.revoke_cushion, Allocating.revoke_back]
  omega

/-- Revoking down to a limit never raises the sum, and only grants of the list's claimants go. -/
theorem Allocating.revokeUntil_spec (env : AllocEnv) (cause : RevokeCause) (limit : Nat) (victims : List Grant)
    (a : Allocating) :
    (a.revokeUntil env cause limit victims).total ≤ a.total ∧
      ∀ g ∈ a.grants, (∀ v ∈ victims, g.load ≠ v.load) → g ∈ (a.revokeUntil env cause limit victims).grants := by
  unfold Allocating.revokeUntil
  induction victims generalizing a with
  | nil => exact ⟨Nat.le_refl _, fun g hg _ => hg⟩
  | cons v rest ih =>
    rw [List.foldl_cons]
    split
    · exact ⟨(ih a).1, fun g hg hv => (ih a).2 g hg fun u hu => hv u (List.mem_cons_of_mem _ hu)⟩
    · refine ⟨Nat.le_trans (ih _).1 (a.revoke_total_le env cause v), fun g hg hv => (ih _).2 g ?_ fun u hu =>
        hv u (List.mem_cons_of_mem _ hu)⟩
      rw [Allocating.revoke_grants, List.mem_filter]
      exact ⟨hg, by simpa using hv v (List.mem_cons_self ..)⟩

/-- A granted claim leaves the sum within the load ceiling (R8, R13). -/
theorem Allocating.tryGrant_total (env : AllocEnv) (c : Claim) (a b : Allocating) (h : a.tryGrant env c = some b) :
    b.total ≤ env.ceiling := by
  unfold Allocating.tryGrant at h
  split at h
  · cases h
  · split at h
    · next hc => cases h; rw [Allocating.give_total]; exact hc
    · split at h
      · cases h
      · dsimp only at h
        split at h
        · next hc => cases h; rw [Allocating.give_total]; exact hc
        · cases h

/-- A heater grant grows only within the free amount (R16). -/
theorem Allocating.leftover_total (env : AllocEnv) (a : Allocating) (h : a.total ≤ env.ceiling) :
    (a.leftover env).total ≤ env.ceiling := by
  unfold Allocating.leftover
  split
  · simp only [Alloc.total, AllocEnv.free] at h ⊢; omega
  · exact h

theorem Alloc.clear_total (al : Alloc) : al.clear.total = 0 := rfl

/-- An allocator without grants and entries keeps the law under every ceiling. -/
theorem Alloc.reset_sound (ceiling : Nat) : Alloc.reset.Sound ceiling :=
  ⟨Nat.zero_le _, fun _ h => (List.not_mem_nil h).elim, fun _ h => (List.not_mem_nil h).elim, List.nodup_nil,
    List.Pairwise.nil⟩

end Sys2Proof.Machine
end

