-- ==== Sys2Proof/Laws/State.lean ====
section
/-!
SUPPORT. What each update of the blocks leaves in every field, one lemma per field per update, true by unfolding.
-/
namespace Sys2Proof.Machine

open Sys2Proof

/-! ### post -/

@[simp] theorem Work.post_now (w : Work) (n : Notice) : (w.post n).now = w.now := rfl
@[simp] theorem Work.post_band (w : Work) (n : Notice) : (w.post n).band = w.band := rfl
@[simp] theorem Work.post_peers (w : Work) (n : Notice) : (w.post n).peers = w.peers := rfl
@[simp] theorem Work.post_alloc (w : Work) (n : Notice) : (w.post n).alloc = w.alloc := rfl
@[simp] theorem Work.post_motion (w : Work) (n : Notice) : (w.post n).motion = w.motion := rfl
@[simp] theorem Work.post_store (w : Work) (n : Notice) : (w.post n).store = w.store := rfl
@[simp] theorem Work.post_pneu (w : Work) (n : Notice) : (w.post n).pneu = w.pneu := rfl
@[simp] theorem Work.post_massage (w : Work) (n : Notice) : (w.post n).massage = w.massage := rfl
@[simp] theorem Work.post_heat (w : Work) (n : Notice) : (w.post n).heat = w.heat := rfl
@[simp] theorem Work.post_pcu (w : Work) (n : Notice) : (w.post n).pcu = w.pcu := rfl
@[simp] theorem Work.post_faults (w : Work) (n : Notice) : (w.post n).faults = w.faults := rfl
@[simp] theorem Work.post_switches (w : Work) (n : Notice) : (w.post n).switches = w.switches := rfl
@[simp] theorem Work.post_power (w : Work) (n : Notice) : (w.post n).power = w.power := rfl
@[simp] theorem Work.post_inbox (w : Work) (n : Notice) : (w.post n).inbox = w.inbox ++ [n] := rfl
@[simp] theorem Work.post_out (w : Work) (n : Notice) : (w.post n).out = w.out := rfl

/-! ### emit -/

@[simp] theorem Work.emit_now (w : Work) (i : Item) : (w.emit i).now = w.now := rfl
@[simp] theorem Work.emit_band (w : Work) (i : Item) : (w.emit i).band = w.band := rfl
@[simp] theorem Work.emit_peers (w : Work) (i : Item) : (w.emit i).peers = w.peers := rfl
@[simp] theorem Work.emit_alloc (w : Work) (i : Item) : (w.emit i).alloc = w.alloc := rfl
@[simp] theorem Work.emit_motion (w : Work) (i : Item) : (w.emit i).motion = w.motion := rfl
@[simp] theorem Work.emit_store (w : Work) (i : Item) : (w.emit i).store = w.store := rfl
@[simp] theorem Work.emit_pneu (w : Work) (i : Item) : (w.emit i).pneu = w.pneu := rfl
@[simp] theorem Work.emit_massage (w : Work) (i : Item) : (w.emit i).massage = w.massage := rfl
@[simp] theorem Work.emit_heat (w : Work) (i : Item) : (w.emit i).heat = w.heat := rfl
@[simp] theorem Work.emit_pcu (w : Work) (i : Item) : (w.emit i).pcu = w.pcu := rfl
@[simp] theorem Work.emit_faults (w : Work) (i : Item) : (w.emit i).faults = w.faults := rfl
@[simp] theorem Work.emit_switches (w : Work) (i : Item) : (w.emit i).switches = w.switches := rfl
@[simp] theorem Work.emit_power (w : Work) (i : Item) : (w.emit i).power = w.power := rfl
@[simp] theorem Work.emit_inbox (w : Work) (i : Item) : (w.emit i).inbox = w.inbox := rfl
@[simp] theorem Work.emit_out (w : Work) (i : Item) : (w.emit i).out = w.out ++ [i] := rfl

/-! ### modStore -/

@[simp] theorem Work.modStore_now (w : Work) (f : Store → Store) : (w.modStore f).now = w.now := rfl
@[simp] theorem Work.modStore_band (w : Work) (f : Store → Store) : (w.modStore f).band = w.band := rfl
@[simp] theorem Work.modStore_peers (w : Work) (f : Store → Store) : (w.modStore f).peers = w.peers := rfl
@[simp] theorem Work.modStore_alloc (w : Work) (f : Store → Store) : (w.modStore f).alloc = w.alloc := rfl
@[simp] theorem Work.modStore_motion (w : Work) (f : Store → Store) : (w.modStore f).motion = w.motion := rfl
@[simp] theorem Work.modStore_store (w : Work) (f : Store → Store) : (w.modStore f).store = f w.store := rfl
@[simp] theorem Work.modStore_pneu (w : Work) (f : Store → Store) : (w.modStore f).pneu = w.pneu := rfl
@[simp] theorem Work.modStore_massage (w : Work) (f : Store → Store) : (w.modStore f).massage = w.massage := rfl
@[simp] theorem Work.modStore_heat (w : Work) (f : Store → Store) : (w.modStore f).heat = w.heat := rfl
@[simp] theorem Work.modStore_pcu (w : Work) (f : Store → Store) : (w.modStore f).pcu = w.pcu := rfl
@[simp] theorem Work.modStore_faults (w : Work) (f : Store → Store) : (w.modStore f).faults = w.faults := rfl
@[simp] theorem Work.modStore_switches (w : Work) (f : Store → Store) : (w.modStore f).switches = w.switches := rfl
@[simp] theorem Work.modStore_power (w : Work) (f : Store → Store) : (w.modStore f).power = w.power := rfl
@[simp] theorem Work.modStore_inbox (w : Work) (f : Store → Store) : (w.modStore f).inbox = w.inbox := rfl
@[simp] theorem Work.modStore_out (w : Work) (f : Store → Store) : (w.modStore f).out = w.out := rfl

/-! ### modMassage -/

@[simp] theorem Work.modMassage_now (w : Work) (f : Massage → Massage) : (w.modMassage f).now = w.now := rfl
@[simp] theorem Work.modMassage_band (w : Work) (f : Massage → Massage) : (w.modMassage f).band = w.band := rfl
@[simp] theorem Work.modMassage_peers (w : Work) (f : Massage → Massage) : (w.modMassage f).peers = w.peers := rfl
@[simp] theorem Work.modMassage_alloc (w : Work) (f : Massage → Massage) : (w.modMassage f).alloc = w.alloc := rfl
@[simp] theorem Work.modMassage_motion (w : Work) (f : Massage → Massage) : (w.modMassage f).motion = w.motion := rfl
@[simp] theorem Work.modMassage_store (w : Work) (f : Massage → Massage) : (w.modMassage f).store = w.store := rfl
@[simp] theorem Work.modMassage_pneu (w : Work) (f : Massage → Massage) : (w.modMassage f).pneu = w.pneu := rfl
@[simp] theorem Work.modMassage_massage (w : Work) (f : Massage → Massage) : (w.modMassage f).massage = f w.massage := rfl
@[simp] theorem Work.modMassage_heat (w : Work) (f : Massage → Massage) : (w.modMassage f).heat = w.heat := rfl
@[simp] theorem Work.modMassage_pcu (w : Work) (f : Massage → Massage) : (w.modMassage f).pcu = w.pcu := rfl
@[simp] theorem Work.modMassage_faults (w : Work) (f : Massage → Massage) : (w.modMassage f).faults = w.faults := rfl
@[simp] theorem Work.modMassage_switches (w : Work) (f : Massage → Massage) : (w.modMassage f).switches = w.switches := rfl
@[simp] theorem Work.modMassage_power (w : Work) (f : Massage → Massage) : (w.modMassage f).power = w.power := rfl
@[simp] theorem Work.modMassage_inbox (w : Work) (f : Massage → Massage) : (w.modMassage f).inbox = w.inbox := rfl
@[simp] theorem Work.modMassage_out (w : Work) (f : Massage → Massage) : (w.modMassage f).out = w.out := rfl

/-! ### modPcu -/

@[simp] theorem Work.modPcu_now (w : Work) (f : Pcu → Pcu) : (w.modPcu f).now = w.now := rfl
@[simp] theorem Work.modPcu_band (w : Work) (f : Pcu → Pcu) : (w.modPcu f).band = w.band := rfl
@[simp] theorem Work.modPcu_peers (w : Work) (f : Pcu → Pcu) : (w.modPcu f).peers = w.peers := rfl
@[simp] theorem Work.modPcu_alloc (w : Work) (f : Pcu → Pcu) : (w.modPcu f).alloc = w.alloc := rfl
@[simp] theorem Work.modPcu_motion (w : Work) (f : Pcu → Pcu) : (w.modPcu f).motion = w.motion := rfl
@[simp] theorem Work.modPcu_store (w : Work) (f : Pcu → Pcu) : (w.modPcu f).store = w.store := rfl
@[simp] theorem Work.modPcu_pneu (w : Work) (f : Pcu → Pcu) : (w.modPcu f).pneu = w.pneu := rfl
@[simp] theorem Work.modPcu_massage (w : Work) (f : Pcu → Pcu) : (w.modPcu f).massage = w.massage := rfl
@[simp] theorem Work.modPcu_heat (w : Work) (f : Pcu → Pcu) : (w.modPcu f).heat = w.heat := rfl
@[simp] theorem Work.modPcu_pcu (w : Work) (f : Pcu → Pcu) : (w.modPcu f).pcu = f w.pcu := rfl
@[simp] theorem Work.modPcu_faults (w : Work) (f : Pcu → Pcu) : (w.modPcu f).faults = w.faults := rfl
@[simp] theorem Work.modPcu_switches (w : Work) (f : Pcu → Pcu) : (w.modPcu f).switches = w.switches := rfl
@[simp] theorem Work.modPcu_power (w : Work) (f : Pcu → Pcu) : (w.modPcu f).power = w.power := rfl
@[simp] theorem Work.modPcu_inbox (w : Work) (f : Pcu → Pcu) : (w.modPcu f).inbox = w.inbox := rfl
@[simp] theorem Work.modPcu_out (w : Work) (f : Pcu → Pcu) : (w.modPcu f).out = w.out := rfl

/-! ### setManifold -/

@[simp] theorem Work.setManifold_now (w : Work) (m : Manifold) : (w.setManifold m).now = w.now := rfl
@[simp] theorem Work.setManifold_band (w : Work) (m : Manifold) : (w.setManifold m).band = w.band := rfl
@[simp] theorem Work.setManifold_peers (w : Work) (m : Manifold) : (w.setManifold m).peers = w.peers := rfl
@[simp] theorem Work.setManifold_alloc (w : Work) (m : Manifold) : (w.setManifold m).alloc = w.alloc := rfl
@[simp] theorem Work.setManifold_motion (w : Work) (m : Manifold) : (w.setManifold m).motion = w.motion := rfl
@[simp] theorem Work.setManifold_store (w : Work) (m : Manifold) : (w.setManifold m).store = w.store := rfl
@[simp] theorem Work.setManifold_pneu (w : Work) (m : Manifold) : (w.setManifold m).pneu = { w.pneu with manifold := m } := rfl
@[simp] theorem Work.setManifold_massage (w : Work) (m : Manifold) : (w.setManifold m).massage = w.massage := rfl
@[simp] theorem Work.setManifold_heat (w : Work) (m : Manifold) : (w.setManifold m).heat = w.heat := rfl
@[simp] theorem Work.setManifold_pcu (w : Work) (m : Manifold) : (w.setManifold m).pcu = w.pcu := rfl
@[simp] theorem Work.setManifold_faults (w : Work) (m : Manifold) : (w.setManifold m).faults = w.faults := rfl
@[simp] theorem Work.setManifold_switches (w : Work) (m : Manifold) : (w.setManifold m).switches = w.switches := rfl
@[simp] theorem Work.setManifold_power (w : Work) (m : Manifold) : (w.setManifold m).power = w.power := rfl
@[simp] theorem Work.setManifold_inbox (w : Work) (m : Manifold) : (w.setManifold m).inbox = w.inbox := rfl
@[simp] theorem Work.setManifold_out (w : Work) (m : Manifold) : (w.setManifold m).out = w.out := rfl

/-! ### setAirQueue -/

@[simp] theorem Work.setAirQueue_now (w : Work) (q : List AirEntry) : (w.setAirQueue q).now = w.now := rfl
@[simp] theorem Work.setAirQueue_band (w : Work) (q : List AirEntry) : (w.setAirQueue q).band = w.band := rfl
@[simp] theorem Work.setAirQueue_peers (w : Work) (q : List AirEntry) : (w.setAirQueue q).peers = w.peers := rfl
@[simp] theorem Work.setAirQueue_alloc (w : Work) (q : List AirEntry) : (w.setAirQueue q).alloc = w.alloc := rfl
@[simp] theorem Work.setAirQueue_motion (w : Work) (q : List AirEntry) : (w.setAirQueue q).motion = w.motion := rfl
@[simp] theorem Work.setAirQueue_store (w : Work) (q : List AirEntry) : (w.setAirQueue q).store = w.store := rfl
@[simp] theorem Work.setAirQueue_pneu (w : Work) (q : List AirEntry) : (w.setAirQueue q).pneu = { w.pneu with queue := q } := rfl
@[simp] theorem Work.setAirQueue_massage (w : Work) (q : List AirEntry) : (w.setAirQueue q).massage = w.massage := rfl
@[simp] theorem Work.setAirQueue_heat (w : Work) (q : List AirEntry) : (w.setAirQueue q).heat = w.heat := rfl
@[simp] theorem Work.setAirQueue_pcu (w : Work) (q : List AirEntry) : (w.setAirQueue q).pcu = w.pcu := rfl
@[simp] theorem Work.setAirQueue_faults (w : Work) (q : List AirEntry) : (w.setAirQueue q).faults = w.faults := rfl
@[simp] theorem Work.setAirQueue_switches (w : Work) (q : List AirEntry) : (w.setAirQueue q).switches = w.switches := rfl
@[simp] theorem Work.setAirQueue_power (w : Work) (q : List AirEntry) : (w.setAirQueue q).power = w.power := rfl
@[simp] theorem Work.setAirQueue_inbox (w : Work) (q : List AirEntry) : (w.setAirQueue q).inbox = w.inbox := rfl
@[simp] theorem Work.setAirQueue_out (w : Work) (q : List AirEntry) : (w.setAirQueue q).out = w.out := rfl

/-! ### setHold -/

@[simp] theorem Work.setHold_now (w : Work) (h : BolsterHold) : (w.setHold h).now = w.now := rfl
@[simp] theorem Work.setHold_band (w : Work) (h : BolsterHold) : (w.setHold h).band = w.band := rfl
@[simp] theorem Work.setHold_peers (w : Work) (h : BolsterHold) : (w.setHold h).peers = w.peers := rfl
@[simp] theorem Work.setHold_alloc (w : Work) (h : BolsterHold) : (w.setHold h).alloc = w.alloc := rfl
@[simp] theorem Work.setHold_motion (w : Work) (h : BolsterHold) : (w.setHold h).motion = w.motion := rfl
@[simp] theorem Work.setHold_store (w : Work) (h : BolsterHold) : (w.setHold h).store = w.store := rfl
@[simp] theorem Work.setHold_pneu (w : Work) (h : BolsterHold) : (w.setHold h).pneu = { w.pneu with hold := h } := rfl
@[simp] theorem Work.setHold_massage (w : Work) (h : BolsterHold) : (w.setHold h).massage = w.massage := rfl
@[simp] theorem Work.setHold_heat (w : Work) (h : BolsterHold) : (w.setHold h).heat = w.heat := rfl
@[simp] theorem Work.setHold_pcu (w : Work) (h : BolsterHold) : (w.setHold h).pcu = w.pcu := rfl
@[simp] theorem Work.setHold_faults (w : Work) (h : BolsterHold) : (w.setHold h).faults = w.faults := rfl
@[simp] theorem Work.setHold_switches (w : Work) (h : BolsterHold) : (w.setHold h).switches = w.switches := rfl
@[simp] theorem Work.setHold_power (w : Work) (h : BolsterHold) : (w.setHold h).power = w.power := rfl
@[simp] theorem Work.setHold_inbox (w : Work) (h : BolsterHold) : (w.setHold h).inbox = w.inbox := rfl
@[simp] theorem Work.setHold_out (w : Work) (h : BolsterHold) : (w.setHold h).out = w.out := rfl

/-! ### reach -/

@[simp] theorem Work.reach_now (w : Work) (t : Time) : (w.reach t).now = max w.now t := rfl
@[simp] theorem Work.reach_band (w : Work) (t : Time) : (w.reach t).band = w.band := rfl
@[simp] theorem Work.reach_peers (w : Work) (t : Time) : (w.reach t).peers = w.peers := rfl
@[simp] theorem Work.reach_alloc (w : Work) (t : Time) : (w.reach t).alloc = w.alloc := rfl
@[simp] theorem Work.reach_motion (w : Work) (t : Time) : (w.reach t).motion = w.motion := rfl
@[simp] theorem Work.reach_store (w : Work) (t : Time) : (w.reach t).store = w.store := rfl
@[simp] theorem Work.reach_pneu (w : Work) (t : Time) : (w.reach t).pneu = w.pneu := rfl
@[simp] theorem Work.reach_massage (w : Work) (t : Time) : (w.reach t).massage = w.massage := rfl
@[simp] theorem Work.reach_heat (w : Work) (t : Time) : (w.reach t).heat = w.heat := rfl
@[simp] theorem Work.reach_pcu (w : Work) (t : Time) : (w.reach t).pcu = w.pcu := rfl
@[simp] theorem Work.reach_faults (w : Work) (t : Time) : (w.reach t).faults = w.faults := rfl
@[simp] theorem Work.reach_switches (w : Work) (t : Time) : (w.reach t).switches = w.switches := rfl
@[simp] theorem Work.reach_power (w : Work) (t : Time) : (w.reach t).power = w.power := rfl
@[simp] theorem Work.reach_inbox (w : Work) (t : Time) : (w.reach t).inbox = w.inbox := rfl
@[simp] theorem Work.reach_out (w : Work) (t : Time) : (w.reach t).out = w.out := rfl

/-! ### outputStart -/

@[simp] theorem Work.outputStart_now (w : Work) : (w.outputStart).now = w.now := rfl
@[simp] theorem Work.outputStart_band (w : Work) : (w.outputStart).band = w.band := rfl
@[simp] theorem Work.outputStart_peers (w : Work) : (w.outputStart).peers = w.peers := rfl
@[simp] theorem Work.outputStart_alloc (w : Work) : (w.outputStart).alloc = w.alloc := rfl
@[simp] theorem Work.outputStart_motion (w : Work) : (w.outputStart).motion = w.motion := rfl
@[simp] theorem Work.outputStart_store (w : Work) : (w.outputStart).store = w.store := rfl
@[simp] theorem Work.outputStart_pneu (w : Work) : (w.outputStart).pneu = w.pneu := rfl
@[simp] theorem Work.outputStart_massage (w : Work) : (w.outputStart).massage = w.massage := rfl
@[simp] theorem Work.outputStart_heat (w : Work) : (w.outputStart).heat = w.heat := rfl
@[simp] theorem Work.outputStart_pcu (w : Work) : (w.outputStart).pcu = w.pcu := rfl
@[simp] theorem Work.outputStart_faults (w : Work) : (w.outputStart).faults = w.faults := rfl
@[simp] theorem Work.outputStart_switches (w : Work) : (w.outputStart).switches = w.switches := rfl
@[simp] theorem Work.outputStart_power (w : Work) : (w.outputStart).power = { w.power with window := none } := rfl
@[simp] theorem Work.outputStart_inbox (w : Work) : (w.outputStart).inbox = w.inbox := rfl
@[simp] theorem Work.outputStart_out (w : Work) : (w.outputStart).out = w.out := rfl

/-! ### clearLive -/

@[simp] theorem Work.clearLive_now (w : Work) (k : FaultKind) (i : Nat) : (w.clearLive k i).now = w.now := rfl
@[simp] theorem Work.clearLive_band (w : Work) (k : FaultKind) (i : Nat) : (w.clearLive k i).band = w.band := rfl
@[simp] theorem Work.clearLive_peers (w : Work) (k : FaultKind) (i : Nat) : (w.clearLive k i).peers = w.peers := rfl
@[simp] theorem Work.clearLive_alloc (w : Work) (k : FaultKind) (i : Nat) : (w.clearLive k i).alloc = w.alloc := rfl
@[simp] theorem Work.clearLive_motion (w : Work) (k : FaultKind) (i : Nat) : (w.clearLive k i).motion = w.motion := rfl
@[simp] theorem Work.clearLive_store (w : Work) (k : FaultKind) (i : Nat) : (w.clearLive k i).store = w.store := rfl
@[simp] theorem Work.clearLive_pneu (w : Work) (k : FaultKind) (i : Nat) : (w.clearLive k i).pneu = w.pneu := rfl
@[simp] theorem Work.clearLive_massage (w : Work) (k : FaultKind) (i : Nat) : (w.clearLive k i).massage = w.massage := rfl
@[simp] theorem Work.clearLive_heat (w : Work) (k : FaultKind) (i : Nat) : (w.clearLive k i).heat = w.heat := rfl
@[simp] theorem Work.clearLive_pcu (w : Work) (k : FaultKind) (i : Nat) : (w.clearLive k i).pcu = w.pcu := rfl
@[simp] theorem Work.clearLive_faults (w : Work) (k : FaultKind) (i : Nat) : (w.clearLive k i).faults = w.faults.clearLive ⟨k, i⟩ := rfl
@[simp] theorem Work.clearLive_switches (w : Work) (k : FaultKind) (i : Nat) : (w.clearLive k i).switches = w.switches := rfl
@[simp] theorem Work.clearLive_power (w : Work) (k : FaultKind) (i : Nat) : (w.clearLive k i).power = w.power := rfl
@[simp] theorem Work.clearLive_inbox (w : Work) (k : FaultKind) (i : Nat) : (w.clearLive k i).inbox = w.inbox := rfl
@[simp] theorem Work.clearLive_out (w : Work) (k : FaultKind) (i : Nat) : (w.clearLive k i).out = w.out := rfl

/-! ### setAxis -/

@[simp] theorem Work.setAxis_now (w : Work) (a : Axis) (r : AxisRec) : (w.setAxis a r).now = w.now := rfl
@[simp] theorem Work.setAxis_band (w : Work) (a : Axis) (r : AxisRec) : (w.setAxis a r).band = w.band := rfl
@[simp] theorem Work.setAxis_peers (w : Work) (a : Axis) (r : AxisRec) : (w.setAxis a r).peers = w.peers := rfl
@[simp] theorem Work.setAxis_alloc (w : Work) (a : Axis) (r : AxisRec) : (w.setAxis a r).alloc = w.alloc := rfl
@[simp] theorem Work.setAxis_motion (w : Work) (a : Axis) (r : AxisRec) : (w.setAxis a r).motion = { w.motion with axes := w.motion.axes.set a.index.val r a.index.isLt } := rfl
@[simp] theorem Work.setAxis_store (w : Work) (a : Axis) (r : AxisRec) : (w.setAxis a r).store = w.store := rfl
@[simp] theorem Work.setAxis_pneu (w : Work) (a : Axis) (r : AxisRec) : (w.setAxis a r).pneu = w.pneu := rfl
@[simp] theorem Work.setAxis_massage (w : Work) (a : Axis) (r : AxisRec) : (w.setAxis a r).massage = w.massage := rfl
@[simp] theorem Work.setAxis_heat (w : Work) (a : Axis) (r : AxisRec) : (w.setAxis a r).heat = w.heat := rfl
@[simp] theorem Work.setAxis_pcu (w : Work) (a : Axis) (r : AxisRec) : (w.setAxis a r).pcu = w.pcu := rfl
@[simp] theorem Work.setAxis_faults (w : Work) (a : Axis) (r : AxisRec) : (w.setAxis a r).faults = w.faults := rfl
@[simp] theorem Work.setAxis_switches (w : Work) (a : Axis) (r : AxisRec) : (w.setAxis a r).switches = w.switches := rfl
@[simp] theorem Work.setAxis_power (w : Work) (a : Axis) (r : AxisRec) : (w.setAxis a r).power = w.power := rfl
@[simp] theorem Work.setAxis_inbox (w : Work) (a : Axis) (r : AxisRec) : (w.setAxis a r).inbox = w.inbox := rfl
@[simp] theorem Work.setAxis_out (w : Work) (a : Axis) (r : AxisRec) : (w.setAxis a r).out = w.out := rfl

/-! ### setCell -/

@[simp] theorem Work.setCell_now (w : Work) (c : CellIx) (r : Cell) : (w.setCell c r).now = w.now := rfl
@[simp] theorem Work.setCell_band (w : Work) (c : CellIx) (r : Cell) : (w.setCell c r).band = w.band := rfl
@[simp] theorem Work.setCell_peers (w : Work) (c : CellIx) (r : Cell) : (w.setCell c r).peers = w.peers := rfl
@[simp] theorem Work.setCell_alloc (w : Work) (c : CellIx) (r : Cell) : (w.setCell c r).alloc = w.alloc := rfl
@[simp] theorem Work.setCell_motion (w : Work) (c : CellIx) (r : Cell) : (w.setCell c r).motion = w.motion := rfl
@[simp] theorem Work.setCell_store (w : Work) (c : CellIx) (r : Cell) : (w.setCell c r).store = w.store := rfl
@[simp] theorem Work.setCell_pneu (w : Work) (c : CellIx) (r : Cell) : (w.setCell c r).pneu = { w.pneu with cells := w.pneu.cells.set c.val r c.isLt } := rfl
@[simp] theorem Work.setCell_massage (w : Work) (c : CellIx) (r : Cell) : (w.setCell c r).massage = w.massage := rfl
@[simp] theorem Work.setCell_heat (w : Work) (c : CellIx) (r : Cell) : (w.setCell c r).heat = w.heat := rfl
@[simp] theorem Work.setCell_pcu (w : Work) (c : CellIx) (r : Cell) : (w.setCell c r).pcu = w.pcu := rfl
@[simp] theorem Work.setCell_faults (w : Work) (c : CellIx) (r : Cell) : (w.setCell c r).faults = w.faults := rfl
@[simp] theorem Work.setCell_switches (w : Work) (c : CellIx) (r : Cell) : (w.setCell c r).switches = w.switches := rfl
@[simp] theorem Work.setCell_power (w : Work) (c : CellIx) (r : Cell) : (w.setCell c r).power = w.power := rfl
@[simp] theorem Work.setCell_inbox (w : Work) (c : CellIx) (r : Cell) : (w.setCell c r).inbox = w.inbox := rfl
@[simp] theorem Work.setCell_out (w : Work) (c : CellIx) (r : Cell) : (w.setCell c r).out = w.out := rfl

/-! ### setSlot -/

@[simp] theorem Work.setSlot_now (w : Work) (i : Fin 7) (r : Slot) : (w.setSlot i r).now = w.now := rfl
@[simp] theorem Work.setSlot_band (w : Work) (i : Fin 7) (r : Slot) : (w.setSlot i r).band = w.band := rfl
@[simp] theorem Work.setSlot_peers (w : Work) (i : Fin 7) (r : Slot) : (w.setSlot i r).peers = w.peers := rfl
@[simp] theorem Work.setSlot_alloc (w : Work) (i : Fin 7) (r : Slot) : (w.setSlot i r).alloc = w.alloc := rfl
@[simp] theorem Work.setSlot_motion (w : Work) (i : Fin 7) (r : Slot) : (w.setSlot i r).motion = w.motion := rfl
@[simp] theorem Work.setSlot_store (w : Work) (i : Fin 7) (r : Slot) : (w.setSlot i r).store = { w.store with slots := w.store.slots.set i.val r i.isLt } := rfl
@[simp] theorem Work.setSlot_pneu (w : Work) (i : Fin 7) (r : Slot) : (w.setSlot i r).pneu = w.pneu := rfl
@[simp] theorem Work.setSlot_massage (w : Work) (i : Fin 7) (r : Slot) : (w.setSlot i r).massage = w.massage := rfl
@[simp] theorem Work.setSlot_heat (w : Work) (i : Fin 7) (r : Slot) : (w.setSlot i r).heat = w.heat := rfl
@[simp] theorem Work.setSlot_pcu (w : Work) (i : Fin 7) (r : Slot) : (w.setSlot i r).pcu = w.pcu := rfl
@[simp] theorem Work.setSlot_faults (w : Work) (i : Fin 7) (r : Slot) : (w.setSlot i r).faults = w.faults := rfl
@[simp] theorem Work.setSlot_switches (w : Work) (i : Fin 7) (r : Slot) : (w.setSlot i r).switches = w.switches := rfl
@[simp] theorem Work.setSlot_power (w : Work) (i : Fin 7) (r : Slot) : (w.setSlot i r).power = w.power := rfl
@[simp] theorem Work.setSlot_inbox (w : Work) (i : Fin 7) (r : Slot) : (w.setSlot i r).inbox = w.inbox := rfl
@[simp] theorem Work.setSlot_out (w : Work) (i : Fin 7) (r : Slot) : (w.setSlot i r).out = w.out := rfl

/-! ### setSwitch -/

@[simp] theorem Work.setSwitch_now (w : Work) (p : SwitchPos) (r : SwitchRec) : (w.setSwitch p r).now = w.now := rfl
@[simp] theorem Work.setSwitch_band (w : Work) (p : SwitchPos) (r : SwitchRec) : (w.setSwitch p r).band = w.band := rfl
@[simp] theorem Work.setSwitch_peers (w : Work) (p : SwitchPos) (r : SwitchRec) : (w.setSwitch p r).peers = w.peers := rfl
@[simp] theorem Work.setSwitch_alloc (w : Work) (p : SwitchPos) (r : SwitchRec) : (w.setSwitch p r).alloc = w.alloc := rfl
@[simp] theorem Work.setSwitch_motion (w : Work) (p : SwitchPos) (r : SwitchRec) : (w.setSwitch p r).motion = w.motion := rfl
@[simp] theorem Work.setSwitch_store (w : Work) (p : SwitchPos) (r : SwitchRec) : (w.setSwitch p r).store = w.store := rfl
@[simp] theorem Work.setSwitch_pneu (w : Work) (p : SwitchPos) (r : SwitchRec) : (w.setSwitch p r).pneu = w.pneu := rfl
@[simp] theorem Work.setSwitch_massage (w : Work) (p : SwitchPos) (r : SwitchRec) : (w.setSwitch p r).massage = w.massage := rfl
@[simp] theorem Work.setSwitch_heat (w : Work) (p : SwitchPos) (r : SwitchRec) : (w.setSwitch p r).heat = w.heat := rfl
@[simp] theorem Work.setSwitch_pcu (w : Work) (p : SwitchPos) (r : SwitchRec) : (w.setSwitch p r).pcu = w.pcu := rfl
@[simp] theorem Work.setSwitch_faults (w : Work) (p : SwitchPos) (r : SwitchRec) : (w.setSwitch p r).faults = w.faults := rfl
@[simp] theorem Work.setSwitch_switches (w : Work) (p : SwitchPos) (r : SwitchRec) : (w.setSwitch p r).switches = { w.switches with records := w.switches.records.set p.val r p.isLt } := rfl
@[simp] theorem Work.setSwitch_power (w : Work) (p : SwitchPos) (r : SwitchRec) : (w.setSwitch p r).power = w.power := rfl
@[simp] theorem Work.setSwitch_inbox (w : Work) (p : SwitchPos) (r : SwitchRec) : (w.setSwitch p r).inbox = w.inbox := rfl
@[simp] theorem Work.setSwitch_out (w : Work) (p : SwitchPos) (r : SwitchRec) : (w.setSwitch p r).out = w.out := rfl

/-! ### setConflict -/

@[simp] theorem Work.setConflict_now (w : Work) (a : Axis) (b : Bool) : (w.setConflict a b).now = w.now := rfl
@[simp] theorem Work.setConflict_band (w : Work) (a : Axis) (b : Bool) : (w.setConflict a b).band = w.band := rfl
@[simp] theorem Work.setConflict_peers (w : Work) (a : Axis) (b : Bool) : (w.setConflict a b).peers = w.peers := rfl
@[simp] theorem Work.setConflict_alloc (w : Work) (a : Axis) (b : Bool) : (w.setConflict a b).alloc = w.alloc := rfl
@[simp] theorem Work.setConflict_motion (w : Work) (a : Axis) (b : Bool) : (w.setConflict a b).motion = w.motion := rfl
@[simp] theorem Work.setConflict_store (w : Work) (a : Axis) (b : Bool) : (w.setConflict a b).store = w.store := rfl
@[simp] theorem Work.setConflict_pneu (w : Work) (a : Axis) (b : Bool) : (w.setConflict a b).pneu = w.pneu := rfl
@[simp] theorem Work.setConflict_massage (w : Work) (a : Axis) (b : Bool) : (w.setConflict a b).massage = w.massage := rfl
@[simp] theorem Work.setConflict_heat (w : Work) (a : Axis) (b : Bool) : (w.setConflict a b).heat = w.heat := rfl
@[simp] theorem Work.setConflict_pcu (w : Work) (a : Axis) (b : Bool) : (w.setConflict a b).pcu = w.pcu := rfl
@[simp] theorem Work.setConflict_faults (w : Work) (a : Axis) (b : Bool) : (w.setConflict a b).faults = w.faults := rfl
@[simp] theorem Work.setConflict_switches (w : Work) (a : Axis) (b : Bool) : (w.setConflict a b).switches = { w.switches with conflicts := w.switches.conflicts.set a.index.val b a.index.isLt } := rfl
@[simp] theorem Work.setConflict_power (w : Work) (a : Axis) (b : Bool) : (w.setConflict a b).power = w.power := rfl
@[simp] theorem Work.setConflict_inbox (w : Work) (a : Axis) (b : Bool) : (w.setConflict a b).inbox = w.inbox := rfl
@[simp] theorem Work.setConflict_out (w : Work) (a : Axis) (b : Bool) : (w.setConflict a b).out = w.out := rfl

/-! ### mapAxes -/

@[simp] theorem Work.mapAxes_now (w : Work) (f : AxisRec → AxisRec) : (w.mapAxes f).now = w.now := rfl
@[simp] theorem Work.mapAxes_band (w : Work) (f : AxisRec → AxisRec) : (w.mapAxes f).band = w.band := rfl
@[simp] theorem Work.mapAxes_peers (w : Work) (f : AxisRec → AxisRec) : (w.mapAxes f).peers = w.peers := rfl
@[simp] theorem Work.mapAxes_alloc (w : Work) (f : AxisRec → AxisRec) : (w.mapAxes f).alloc = w.alloc := rfl
@[simp] theorem Work.mapAxes_motion (w : Work) (f : AxisRec → AxisRec) : (w.mapAxes f).motion = { w.motion with axes := w.motion.axes.map f } := rfl
@[simp] theorem Work.mapAxes_store (w : Work) (f : AxisRec → AxisRec) : (w.mapAxes f).store = w.store := rfl
@[simp] theorem Work.mapAxes_pneu (w : Work) (f : AxisRec → AxisRec) : (w.mapAxes f).pneu = w.pneu := rfl
@[simp] theorem Work.mapAxes_massage (w : Work) (f : AxisRec → AxisRec) : (w.mapAxes f).massage = w.massage := rfl
@[simp] theorem Work.mapAxes_heat (w : Work) (f : AxisRec → AxisRec) : (w.mapAxes f).heat = w.heat := rfl
@[simp] theorem Work.mapAxes_pcu (w : Work) (f : AxisRec → AxisRec) : (w.mapAxes f).pcu = w.pcu := rfl
@[simp] theorem Work.mapAxes_faults (w : Work) (f : AxisRec → AxisRec) : (w.mapAxes f).faults = w.faults := rfl
@[simp] theorem Work.mapAxes_switches (w : Work) (f : AxisRec → AxisRec) : (w.mapAxes f).switches = w.switches := rfl
@[simp] theorem Work.mapAxes_power (w : Work) (f : AxisRec → AxisRec) : (w.mapAxes f).power = w.power := rfl
@[simp] theorem Work.mapAxes_inbox (w : Work) (f : AxisRec → AxisRec) : (w.mapAxes f).inbox = w.inbox := rfl
@[simp] theorem Work.mapAxes_out (w : Work) (f : AxisRec → AxisRec) : (w.mapAxes f).out = w.out := rfl

/-! ### setZone, latch, restartRunOn: the same after a case split -/

@[simp] theorem Work.setZone_now (w : Work) (z : Zone) (r : ZoneRec) : (w.setZone z r).now = w.now := by cases z <;> rfl
@[simp] theorem Work.setZone_band (w : Work) (z : Zone) (r : ZoneRec) : (w.setZone z r).band = w.band := by cases z <;> rfl
@[simp] theorem Work.setZone_peers (w : Work) (z : Zone) (r : ZoneRec) : (w.setZone z r).peers = w.peers := by cases z <;> rfl
@[simp] theorem Work.setZone_alloc (w : Work) (z : Zone) (r : ZoneRec) : (w.setZone z r).alloc = w.alloc := by cases z <;> rfl
@[simp] theorem Work.setZone_motion (w : Work) (z : Zone) (r : ZoneRec) : (w.setZone z r).motion = w.motion := by cases z <;> rfl
@[simp] theorem Work.setZone_store (w : Work) (z : Zone) (r : ZoneRec) : (w.setZone z r).store = w.store := by cases z <;> rfl
@[simp] theorem Work.setZone_pneu (w : Work) (z : Zone) (r : ZoneRec) : (w.setZone z r).pneu = w.pneu := by cases z <;> rfl
@[simp] theorem Work.setZone_massage (w : Work) (z : Zone) (r : ZoneRec) : (w.setZone z r).massage = w.massage := by cases z <;> rfl
@[simp] theorem Work.setZone_pcu (w : Work) (z : Zone) (r : ZoneRec) : (w.setZone z r).pcu = w.pcu := by cases z <;> rfl
@[simp] theorem Work.setZone_faults (w : Work) (z : Zone) (r : ZoneRec) : (w.setZone z r).faults = w.faults := by cases z <;> rfl
@[simp] theorem Work.setZone_switches (w : Work) (z : Zone) (r : ZoneRec) : (w.setZone z r).switches = w.switches := by cases z <;> rfl
@[simp] theorem Work.setZone_power (w : Work) (z : Zone) (r : ZoneRec) : (w.setZone z r).power = w.power := by cases z <;> rfl
@[simp] theorem Work.setZone_inbox (w : Work) (z : Zone) (r : ZoneRec) : (w.setZone z r).inbox = w.inbox := by cases z <;> rfl
@[simp] theorem Work.setZone_out (w : Work) (z : Zone) (r : ZoneRec) : (w.setZone z r).out = w.out := by cases z <;> rfl

@[simp] theorem Work.latch_now (w : Work) (x : FaultId) : (w.latch x).now = w.now := by unfold Work.latch; split <;> rfl
@[simp] theorem Work.latch_band (w : Work) (x : FaultId) : (w.latch x).band = w.band := by unfold Work.latch; split <;> rfl
@[simp] theorem Work.latch_peers (w : Work) (x : FaultId) : (w.latch x).peers = w.peers := by unfold Work.latch; split <;> rfl
@[simp] theorem Work.latch_alloc (w : Work) (x : FaultId) : (w.latch x).alloc = w.alloc := by unfold Work.latch; split <;> rfl
@[simp] theorem Work.latch_motion (w : Work) (x : FaultId) : (w.latch x).motion = w.motion := by unfold Work.latch; split <;> rfl
@[simp] theorem Work.latch_store (w : Work) (x : FaultId) : (w.latch x).store = w.store := by unfold Work.latch; split <;> rfl
@[simp] theorem Work.latch_pneu (w : Work) (x : FaultId) : (w.latch x).pneu = w.pneu := by unfold Work.latch; split <;> rfl
@[simp] theorem Work.latch_massage (w : Work) (x : FaultId) : (w.latch x).massage = w.massage := by unfold Work.latch; split <;> rfl
@[simp] theorem Work.latch_heat (w : Work) (x : FaultId) : (w.latch x).heat = w.heat := by unfold Work.latch; split <;> rfl
@[simp] theorem Work.latch_pcu (w : Work) (x : FaultId) : (w.latch x).pcu = w.pcu := by unfold Work.latch; split <;> rfl
@[simp] theorem Work.latch_switches (w : Work) (x : FaultId) : (w.latch x).switches = w.switches := by unfold Work.latch; split <;> rfl
@[simp] theorem Work.latch_power (w : Work) (x : FaultId) : (w.latch x).power = w.power := by unfold Work.latch; split <;> rfl
@[simp] theorem Work.latch_inbox (w : Work) (x : FaultId) : (w.latch x).inbox = w.inbox := by unfold Work.latch; split <;> rfl

@[simp] theorem Work.raise_now (w : Work) (k : FaultKind) (i : Nat) : (w.raise k i).now = w.now := by simp [Work.raise]
@[simp] theorem Work.raise_band (w : Work) (k : FaultKind) (i : Nat) : (w.raise k i).band = w.band := by simp [Work.raise]
@[simp] theorem Work.raise_peers (w : Work) (k : FaultKind) (i : Nat) : (w.raise k i).peers = w.peers := by simp [Work.raise]
@[simp] theorem Work.raise_alloc (w : Work) (k : FaultKind) (i : Nat) : (w.raise k i).alloc = w.alloc := by simp [Work.raise]
@[simp] theorem Work.raise_motion (w : Work) (k : FaultKind) (i : Nat) : (w.raise k i).motion = w.motion := by simp [Work.raise]
@[simp] theorem Work.raise_store (w : Work) (k : FaultKind) (i : Nat) : (w.raise k i).store = w.store := by simp [Work.raise]
@[simp] theorem Work.raise_pneu (w : Work) (k : FaultKind) (i : Nat) : (w.raise k i).pneu = w.pneu := by simp [Work.raise]
@[simp] theorem Work.raise_massage (w : Work) (k : FaultKind) (i : Nat) : (w.raise k i).massage = w.massage := by simp [Work.raise]
@[simp] theorem Work.raise_heat (w : Work) (k : FaultKind) (i : Nat) : (w.raise k i).heat = w.heat := by simp [Work.raise]
@[simp] theorem Work.raise_pcu (w : Work) (k : FaultKind) (i : Nat) : (w.raise k i).pcu = w.pcu := by simp [Work.raise]
@[simp] theorem Work.raise_switches (w : Work) (k : FaultKind) (i : Nat) : (w.raise k i).switches = w.switches := by simp [Work.raise]
@[simp] theorem Work.raise_power (w : Work) (k : FaultKind) (i : Nat) : (w.raise k i).power = w.power := by simp [Work.raise]
@[simp] theorem Work.raise_inbox (w : Work) (k : FaultKind) (i : Nat) : (w.raise k i).inbox = w.inbox := by simp [Work.raise]

@[simp] theorem Work.raiseLive_now (w : Work) (k : FaultKind) (i : Nat) : (w.raiseLive k i).now = w.now := by simp [Work.raiseLive]
@[simp] theorem Work.raiseLive_band (w : Work) (k : FaultKind) (i : Nat) : (w.raiseLive k i).band = w.band := by simp [Work.raiseLive]
@[simp] theorem Work.raiseLive_peers (w : Work) (k : FaultKind) (i : Nat) : (w.raiseLive k i).peers = w.peers := by simp [Work.raiseLive]
@[simp] theorem Work.raiseLive_alloc (w : Work) (k : FaultKind) (i : Nat) : (w.raiseLive k i).alloc = w.alloc := by simp [Work.raiseLive]
@[simp] theorem Work.raiseLive_motion (w : Work) (k : FaultKind) (i : Nat) : (w.raiseLive k i).motion = w.motion := by simp [Work.raiseLive]
@[simp] theorem Work.raiseLive_store (w : Work) (k : FaultKind) (i : Nat) : (w.raiseLive k i).store = w.store := by simp [Work.raiseLive]
@[simp] theorem Work.raiseLive_pneu (w : Work) (k : FaultKind) (i : Nat) : (w.raiseLive k i).pneu = w.pneu := by simp [Work.raiseLive]
@[simp] theorem Work.raiseLive_massage (w : Work) (k : FaultKind) (i : Nat) : (w.raiseLive k i).massage = w.massage := by simp [Work.raiseLive]
@[simp] theorem Work.raiseLive_heat (w : Work) (k : FaultKind) (i : Nat) : (w.raiseLive k i).heat = w.heat := by simp [Work.raiseLive]
@[simp] theorem Work.raiseLive_pcu (w : Work) (k : FaultKind) (i : Nat) : (w.raiseLive k i).pcu = w.pcu := by simp [Work.raiseLive]
@[simp] theorem Work.raiseLive_switches (w : Work) (k : FaultKind) (i : Nat) : (w.raiseLive k i).switches = w.switches := by simp [Work.raiseLive]
@[simp] theorem Work.raiseLive_power (w : Work) (k : FaultKind) (i : Nat) : (w.raiseLive k i).power = w.power := by simp [Work.raiseLive]
@[simp] theorem Work.raiseLive_inbox (w : Work) (k : FaultKind) (i : Nat) : (w.raiseLive k i).inbox = w.inbox := by simp [Work.raiseLive]

@[simp] theorem Work.restartRunOn_now (w : Work) : w.restartRunOn.now = w.now := by unfold Work.restartRunOn; split <;> rfl
@[simp] theorem Work.restartRunOn_band (w : Work) : w.restartRunOn.band = w.band := by unfold Work.restartRunOn; split <;> rfl
@[simp] theorem Work.restartRunOn_peers (w : Work) : w.restartRunOn.peers = w.peers := by unfold Work.restartRunOn; split <;> rfl
@[simp] theorem Work.restartRunOn_alloc (w : Work) : w.restartRunOn.alloc = w.alloc := by unfold Work.restartRunOn; split <;> rfl
@[simp] theorem Work.restartRunOn_motion (w : Work) : w.restartRunOn.motion = w.motion := by unfold Work.restartRunOn; split <;> rfl
@[simp] theorem Work.restartRunOn_store (w : Work) : w.restartRunOn.store = w.store := by unfold Work.restartRunOn; split <;> rfl
@[simp] theorem Work.restartRunOn_pneu (w : Work) : w.restartRunOn.pneu = w.pneu := by unfold Work.restartRunOn; split <;> rfl
@[simp] theorem Work.restartRunOn_massage (w : Work) : w.restartRunOn.massage = w.massage := by unfold Work.restartRunOn; split <;> rfl
@[simp] theorem Work.restartRunOn_heat (w : Work) : w.restartRunOn.heat = w.heat := by unfold Work.restartRunOn; split <;> rfl
@[simp] theorem Work.restartRunOn_pcu (w : Work) : w.restartRunOn.pcu = w.pcu := by unfold Work.restartRunOn; split <;> rfl
@[simp] theorem Work.restartRunOn_faults (w : Work) : w.restartRunOn.faults = w.faults := by unfold Work.restartRunOn; split <;> rfl
@[simp] theorem Work.restartRunOn_switches (w : Work) : w.restartRunOn.switches = w.switches := by unfold Work.restartRunOn; split <;> rfl
@[simp] theorem Work.restartRunOn_inbox (w : Work) : w.restartRunOn.inbox = w.inbox := by unfold Work.restartRunOn; split <;> rfl
@[simp] theorem Work.restartRunOn_out (w : Work) : w.restartRunOn.out = w.out := by unfold Work.restartRunOn; split <;> rfl

@[simp] theorem Work.allocate_now (w : Work) (g : AllocEnv → Allocating → Allocating) : (w.allocate g).now = w.now := rfl
@[simp] theorem Work.allocate_band (w : Work) (g : AllocEnv → Allocating → Allocating) : (w.allocate g).band = w.band := rfl
@[simp] theorem Work.allocate_peers (w : Work) (g : AllocEnv → Allocating → Allocating) : (w.allocate g).peers = w.peers := rfl
@[simp] theorem Work.allocate_motion (w : Work) (g : AllocEnv → Allocating → Allocating) : (w.allocate g).motion = w.motion := rfl
@[simp] theorem Work.allocate_store (w : Work) (g : AllocEnv → Allocating → Allocating) : (w.allocate g).store = w.store := rfl
@[simp] theorem Work.allocate_pneu (w : Work) (g : AllocEnv → Allocating → Allocating) : (w.allocate g).pneu = w.pneu := rfl
@[simp] theorem Work.allocate_massage (w : Work) (g : AllocEnv → Allocating → Allocating) : (w.allocate g).massage = w.massage := rfl
@[simp] theorem Work.allocate_heat (w : Work) (g : AllocEnv → Allocating → Allocating) : (w.allocate g).heat = w.heat := rfl
@[simp] theorem Work.allocate_pcu (w : Work) (g : AllocEnv → Allocating → Allocating) : (w.allocate g).pcu = w.pcu := rfl
@[simp] theorem Work.allocate_faults (w : Work) (g : AllocEnv → Allocating → Allocating) : (w.allocate g).faults = w.faults := rfl
@[simp] theorem Work.allocate_switches (w : Work) (g : AllocEnv → Allocating → Allocating) : (w.allocate g).switches = w.switches := rfl
@[simp] theorem Work.allocate_power (w : Work) (g : AllocEnv → Allocating → Allocating) : (w.allocate g).power = w.power := rfl
@[simp] theorem Work.allocate_out (w : Work) (g : AllocEnv → Allocating → Allocating) : (w.allocate g).out = w.out := rfl

/-! ### A step begins -/

@[simp] theorem Work.start_toSeat (s : Seat) : (Work.start s).toSeat = s := rfl
@[simp] theorem Work.start_inbox (s : Seat) : (Work.start s).inbox = [] := rfl
@[simp] theorem Work.start_out (s : Seat) : (Work.start s).out = [] := rfl

/-! ### Records read back -/

theorem vector_get_eq {α : Type} {n : Nat} (v : Vector α n) (i : Fin n) : v.get i = v[i.val] := rfl

theorem Axis.index_injective : Function.Injective Axis.index := by intro a b; cases a <;> cases b <;> simp [Axis.index]

@[simp] theorem Work.axis_setAxis_self (w : Work) (a : Axis) (r : AxisRec) : (w.setAxis a r).axis a = r := by
  simp [Seat.axis, vector_get_eq]

theorem Work.axis_setAxis_ne (w : Work) (a b : Axis) (r : AxisRec) (h : b ≠ a) : (w.setAxis a r).axis b = w.axis b := by
  have h' : a.index.val ≠ b.index.val := fun e => h (Axis.index_injective (Fin.ext e.symm))
  simp only [Seat.axis, Work.setAxis_motion, vector_get_eq]
  exact Vector.getElem_set_ne _ _ h'

@[simp] theorem Work.cell_setCell_self (w : Work) (c : CellIx) (r : Cell) : (w.setCell c r).cell c = r := by
  simp [Seat.cell, vector_get_eq]

theorem Work.cell_setCell_ne (w : Work) (c d : CellIx) (r : Cell) (h : d ≠ c) : (w.setCell c r).cell d = w.cell d := by
  have h' : c.val ≠ d.val := fun e => h (Fin.ext e.symm)
  simp only [Seat.cell, Work.setCell_pneu, vector_get_eq]
  exact Vector.getElem_set_ne _ _ h'

@[simp] theorem Work.slot_setSlot_self (w : Work) (i : Fin 7) (r : Slot) : (w.setSlot i r).slot i = r := by
  simp [Seat.slot, vector_get_eq]

theorem Work.slot_setSlot_ne (w : Work) (i j : Fin 7) (r : Slot) (h : j ≠ i) : (w.setSlot i r).slot j = w.slot j := by
  have h' : i.val ≠ j.val := fun e => h (Fin.ext e.symm)
  simp only [Seat.slot, Work.setSlot_store, vector_get_eq]
  exact Vector.getElem_set_ne _ _ h'

@[simp] theorem Work.switch_setSwitch_self (w : Work) (p : SwitchPos) (r : SwitchRec) : (w.setSwitch p r).switch p = r := by
  simp [Seat.switch, vector_get_eq]

theorem Work.switch_setSwitch_ne (w : Work) (p q : SwitchPos) (r : SwitchRec) (h : q ≠ p) :
    (w.setSwitch p r).switch q = w.switch q := by
  have h' : p.val ≠ q.val := fun e => h (Fin.ext e.symm)
  simp only [Seat.switch, Work.setSwitch_switches, vector_get_eq]
  exact Vector.getElem_set_ne _ _ h'

@[simp] theorem Work.zone_setZone_self (w : Work) (z : Zone) (r : ZoneRec) : (w.setZone z r).zone z = r := by
  cases z <;> rfl

theorem Work.zone_setZone_ne (w : Work) (z y : Zone) (r : ZoneRec) (h : y ≠ z) : (w.setZone z r).zone y = w.zone y := by
  cases z <;> cases y <;> first | rfl | exact absurd rfl h

end Sys2Proof.Machine
end

