-- ==== Sys2Proof/Laws/Context.lean ====
section
/-!
SUPPORT. The context of a step: the clock, the supply band, the peer view, the profile store, the switches, the power mode,
the configuration and the straps. What the motion, pneumatic, massage, heater and pre-crash blocks do to each other inside
one step leaves all of it as it is.
-/
namespace Sys2Proof.Machine

open Sys2Proof

/-- What the blocks leave alone while they exchange notices. -/
structure Context where
  now : Time
  band : Option Band
  peers : Peers
  store : Store
  switches : Switches
  mode : Mode
  config : Configuration
  node : Station
  side : Side

def Seat.context (s : Seat) : Context :=
  ⟨s.now, s.band, s.peers, s.store, s.switches, s.power.mode, s.power.config, s.power.node, s.power.side⟩

@[simp] theorem Seat.context_mk (now band peers alloc motion store pneu massage heat pcu faults switches power) :
    Seat.context ⟨now, band, peers, alloc, motion, store, pneu, massage, heat, pcu, faults, switches, power⟩ =
      ⟨now, band, peers, store, switches, power.mode, power.config, power.node, power.side⟩ := rfl

@[simp] theorem Seat.context_eta (s : Seat) :
    (⟨s.now, s.band, s.peers, s.store, s.switches, s.power.mode, s.power.config, s.power.node, s.power.side⟩ : Context) =
      s.context := rfl

theorem context_foldl {α : Type} (f : Work → α → Work) (h : ∀ w x, (f w x).context = w.context) (l : List α) (w : Work) :
    (l.foldl f w).context = w.context := by
  induction l generalizing w with
  | nil => rfl
  | cons x l ih => rw [List.foldl_cons, ih, h]

/-! ### One lemma per operation of the blocks -/

@[simp] theorem Work.post_context (w : Work) (n : Notice) : (w.post n).context = w.context := (rfl)
@[simp] theorem Work.emit_context (w : Work) (i : Item) : (w.emit i).context = w.context := (rfl)
@[simp] theorem Work.event_context (w : Work) (k : EventKind) (content : List Byte) : (w.event k content).context = w.context := (rfl)
@[simp] theorem Work.answer_context (w : Work) (code : Nat) (r : Result) (sub : Option Nat) (content : List Byte) : (w.answer code r sub content).context = w.context := (rfl)
@[simp] theorem Work.latch_context (w : Work) (x : FaultId) : (w.latch x).context = w.context := by
  unfold Work.latch; split <;> rfl
@[simp] theorem Work.raise_context (w : Work) (k : FaultKind) (index : Nat) :
    (w.raise k index).context = w.context := by
  simp only [Work.raise]; simp
@[simp] theorem Work.raiseLive_context (w : Work) (k : FaultKind) (i : Nat) : (w.raiseLive k i).context = w.context := by
  unfold Work.raiseLive; rw [Work.latch_context]; rfl
@[simp] theorem Work.clearLive_context (w : Work) (k : FaultKind) (index : Nat) : (w.clearLive k index).context = w.context := (rfl)
@[simp] theorem Work.allocate_context (w : Work) (f : AllocEnv → Allocating → Allocating) : (w.allocate f).context = w.context := (rfl)
@[simp] theorem Work.restartRunOn_context (w : Work) : w.restartRunOn.context = w.context := by
  unfold Work.restartRunOn; split <;> rfl
@[simp] theorem Work.outputStart_context (w : Work) : (w.outputStart).context = w.context := (rfl)
@[simp] theorem Work.setAxis_context (w : Work) (a : Axis) (r : AxisRec) : (w.setAxis a r).context = w.context := (rfl)
@[simp] theorem Work.setCell_context (w : Work) (c : CellIx) (r : Cell) : (w.setCell c r).context = w.context := (rfl)
@[simp] theorem Work.setZone_context (w : Work) (z : Zone) (r : ZoneRec) : (w.setZone z r).context = w.context := by
  cases z <;> rfl
@[simp] theorem Work.dropSnapshotEntry_context (w : Work) (a : Axis) : (w.dropSnapshotEntry a).context = w.context := (rfl)
@[simp] theorem Work.makeClaim_context (w : Work) (a : Axis) : (w.makeClaim a).context = w.context := by
  simp only [Work.makeClaim]; (repeat' split) <;> simp
@[simp] theorem Work.awaitAdmission_context (w : Work) (a : Axis) : (w.awaitAdmission a).context = w.context := (rfl)
@[simp] theorem Work.leaveAdmission_context (w : Work) (a : Axis) : (w.leaveAdmission a).context = w.context := (rfl)
@[simp] theorem Work.admitFrom_context (n : Nat) (w : Work) : (w.admitFrom n).context = w.context := by
  induction n generalizing w with
  | zero => rfl
  | succ n ih => simp only [Work.admitFrom]; (repeat' split) <;> simp [ih]
@[simp] theorem Work.admitWaiting_context (w : Work) : (w.admitWaiting).context = w.context := by
  simp only [Work.admitWaiting]; simp
@[simp] theorem Work.giveOrder_context (w : Work) (a : Axis) (o : Order) : (w.giveOrder a o).context = w.context := by
  simp only [Work.giveOrder]; (repeat' split) <;> simp
@[simp] theorem Work.enterStarting_context (w : Work) (a : Axis) : (w.enterStarting a).context = w.context := by
  simp only [Work.enterStarting]; (repeat' split) <;> simp
@[simp] theorem Work.tryStart_context (w : Work) (a : Axis) : (w.tryStart a).context = w.context := by
  simp only [Work.tryStart]; (repeat' split) <;> simp
@[simp] theorem Work.removeDrive_context (w : Work) (a : Axis) : (w.removeDrive a).context = w.context := by
  simp only [Work.removeDrive]; (repeat' split) <;> simp
@[simp] theorem Work.setOpState_context (w : Work) (a : Axis) (st : OpState) : (w.setOpState a st).context = w.context := (rfl)
@[simp] theorem Work.memberEnded_context (w : Work) (a : Axis) (code : Code) :
    (w.memberEnded a code).context = w.context := by
  simp only [Work.memberEnded]; (repeat' split) <;> simp
@[simp] theorem Work.endOp_context (w : Work) (a : Axis) (code : Code) : (w.endOp a code).context = w.context := by
  simp only [Work.endOp]; (repeat' split) <;> simp
@[simp] theorem Work.endOps_context (w : Work) (axes : List Axis) (code : Code) :
    (w.endOps axes code).context = w.context := by
  simp only [Work.endOps]; simp [context_foldl]
@[simp] theorem Work.withdrawWaiting_context (w : Work) (axes : List Axis) :
    (w.withdrawWaiting axes).context = w.context := by
  simp only [Work.withdrawWaiting]; simp [context_foldl]
@[simp] theorem Work.installOp_context (w : Work) (a : Axis) (o : Op) : (w.installOp a o).context = w.context := by
  simp only [Work.installOp]; simp
@[simp] theorem Work.beginJog_context (w : Work) (a : Axis) (o : Op) : (w.beginJog a o).context = w.context := by
  simp only [Work.beginJog]; (repeat' split) <;> simp
@[simp] theorem Work.beginTarget_context (w : Work) (a : Axis) (o : Op) :
    (w.beginTarget a o).context = w.context := by
  simp only [Work.beginTarget]; (repeat' split) <;> simp
@[simp] theorem Work.beginOp_context (w : Work) (a : Axis) (o : Op) : (w.beginOp a o).context = w.context := by
  simp only [Work.beginOp]; (repeat' split) <;> simp
@[simp] theorem Work.createOp_context (w : Work) (a : Axis) (o : Op) : (w.createOp a o).context = w.context := by
  simp only [Work.createOp]; simp
@[simp] theorem Work.gainReference_context (w : Work) (a : Axis) : (w.gainReference a).context = w.context := by
  simp only [Work.gainReference]; simp
@[simp] theorem Work.loseReference_context (w : Work) (a : Axis) : (w.loseReference a).context = w.context := by
  simp only [Work.loseReference]; (repeat' split) <;> simp
@[simp] theorem Work.arrived_context (w : Work) (a : Axis) : (w.arrived a).context = w.context := by
  simp only [Work.arrived]; (repeat' split) <;> simp
@[simp] theorem Work.stalled_context (w : Work) (a : Axis) : (w.stalled a).context = w.context := by
  simp only [Work.stalled]; (repeat' split) <;> simp
@[simp] theorem Work.axisRevoked_context (w : Work) (a : Axis) (cause : RevokeCause) :
    (w.axisRevoked a cause).context = w.context := by
  simp only [Work.axisRevoked]; (repeat' split) <;> simp
@[simp] theorem Work.takeEdge_context (w : Work) (a : Axis) : (w.takeEdge a).context = w.context := by
  simp only [Work.takeEdge]; (repeat' split) <;> simp
@[simp] theorem Work.judgeTarget_context (w : Work) (a : Axis) : (w.judgeTarget a).context = w.context := by
  simp only [Work.judgeTarget]; (repeat' split) <;> simp
@[simp] theorem Work.backOff_context (w : Work) (a : Axis) : (w.backOff a).context = w.context := by
  simp only [Work.backOff]; (repeat' split) <;> simp
@[simp] theorem Work.homeReturn_context (w : Work) (a : Axis) (o : Op) : (w.homeReturn a o).context = w.context := by
  simp only [Work.homeReturn]; (repeat' split) <;> simp
@[simp] theorem Work.settle_context (w : Work) (a : Axis) : (w.settle a).context = w.context := by
  simp only [Work.settle]; (repeat' split) <;> simp
@[simp] theorem Work.leaveCoast_context (w : Work) (a : Axis) : (w.leaveCoast a).context = w.context := by
  simp only [Work.leaveCoast]; (repeat' split) <;> simp
@[simp] theorem Work.coastEnded_context (w : Work) (a : Axis) : (w.coastEnded a).context = w.context := by
  simp only [Work.coastEnded]; simp
@[simp] theorem Work.brakeEnded_context (w : Work) (a : Axis) : (w.brakeEnded a).context = w.context := by
  simp only [Work.brakeEnded]; simp
@[simp] theorem Work.obstructionFound_context (w : Work) (a : Axis) : (w.obstructionFound a).context = w.context := by
  simp only [Work.obstructionFound]; simp
@[simp] theorem Work.updateMember_context (w : Work) (a : Axis) (f : Member → Member) : (w.updateMember a f).context = w.context := (rfl)
@[simp] theorem Work.finishSequence_context (w : Work) (q : Sequence) (result : Code) : (w.finishSequence q result).context = w.context := (rfl)
@[simp] theorem Work.offer_context (w : Work) (a : Axis) : (w.offer a).context = w.context := by
  simp only [Work.offer]; (repeat' split) <;> simp
@[simp] theorem Work.offerFrom_context (n : Nat) (w : Work) : (w.offerFrom n).context = w.context := by
  induction n generalizing w with
  | zero => rfl
  | succ n ih => simp only [Work.offerFrom]; (repeat' split) <;> simp [ih]
@[simp] theorem Work.advanceSequence_context (w : Work) : (w.advanceSequence).context = w.context := by
  simp only [Work.advanceSequence]; (repeat' split) <;> simp
@[simp] theorem Work.endSequence_context (w : Work) (code : Code) : (w.endSequence code).context = w.context := by
  simp only [Work.endSequence]; (repeat' split) <;> simp
@[simp] theorem Work.endSequenceOf_context (w : Work) (k : SeqKind → Bool) (code : Code) :
    (w.endSequenceOf k code).context = w.context := by
  simp only [Work.endSequenceOf]; (repeat' split) <;> simp
@[simp] theorem Work.makeRoom_context (w : Work) (k : SeqKind) : (w.makeRoom k).context = w.context := by
  cases k <;> simp [Work.makeRoom]
@[simp] theorem Work.createSequence_context (w : Work) (k : SeqKind) (tag : Nat) (ms : List Member) :
    (w.createSequence k tag ms).1.context = w.context := by
  simp only [Work.createSequence]; split <;> simp
@[simp] theorem Work.switchAbort_context (w : Work) : (w.switchAbort).context = w.context := by
  simp only [Work.switchAbort]; (repeat' split) <;> simp
@[simp] theorem Work.servePress_context (w : Work) (a : Axis) (dir : Dir) :
    (w.servePress a dir).context = w.context := by
  simp only [Work.servePress]; (repeat' split) <;> simp
@[simp] theorem Work.axisRelease_context (w : Work) (a : Axis) (dir : Dir) :
    (w.axisRelease a dir).context = w.context := by
  simp only [Work.axisRelease]; (repeat' split) <;> simp
@[simp] theorem Work.moveAxis_context (w : Work) (a : Axis) (target : Nat) (tag : Nat) :
    (w.moveAxis a target tag).context = w.context := by
  simp only [Work.moveAxis]; (repeat' split) <;> simp
@[simp] theorem Work.homeAxis_context (w : Work) (sel : Option Axis) (tag : Nat) :
    (w.homeAxis sel tag).context = w.context := by
  simp only [Work.homeAxis]; (repeat' split) <;> simp
@[simp] theorem Work.stopAll_context (w : Work) : (w.stopAll).context = w.context := by
  simp only [Work.stopAll]; simp
@[simp] theorem Work.restartMotion_context (w : Work) : (w.restartMotion).context = w.context := by
  simp only [Work.restartMotion]; simp [context_foldl]
@[simp] theorem Work.setManifold_context (w : Work) (m : Manifold) : (w.setManifold m).context = w.context := (rfl)
@[simp] theorem Work.setAirQueue_context (w : Work) (q : List AirEntry) : (w.setAirQueue q).context = w.context := (rfl)
@[simp] theorem Work.queueAir_context (w : Work) (e : AirEntry) : (w.queueAir e).context = w.context := by
  simp only [Work.queueAir]; simp
@[simp] theorem Work.closeCells_context (w : Work) (cells : List CellIx) (reading : Nat) :
    (w.closeCells cells reading).context = w.context := by
  simp only [Work.closeCells]; simp [context_foldl]
@[simp] theorem Work.tellVentOver_context (w : Work) (c : CellIx) : (w.tellVentOver c).context = w.context := by
  simp only [Work.tellVentOver]; (repeat' split) <;> simp
@[simp] theorem Work.stopVent_context (w : Work) (c : CellIx) : (w.stopVent c).context = w.context := by
  simp only [Work.stopVent]; (repeat' split) <;> simp
@[simp] theorem Work.tellFillEnd_context (w : Work) (f : Fill) (e : AirEnd) :
    (w.tellFillEnd f e).context = w.context := by
  simp only [Work.tellFillEnd]; (repeat' split) <;> simp [context_foldl]
@[simp] theorem Work.leaveManifold_context (w : Work) : (w.leaveManifold).context = w.context := by
  simp only [Work.leaveManifold]; (repeat' split) <;> simp
@[simp] theorem Work.tellActiveEnd_context (w : Work) (m : Manifold) (e : AirEnd) :
    (w.tellActiveEnd m e).context = w.context := by
  simp only [Work.tellActiveEnd]; (repeat' split) <;> simp
@[simp] theorem Work.endActive_context (w : Work) (e : AirEnd) : (w.endActive e).context = w.context := by
  simp only [Work.endActive]; simp
@[simp] theorem Work.orderVent_context (w : Work) (c : CellIx) (duration : Time) (full : Bool) :
    (w.orderVent c duration full).context = w.context := by
  simp only [Work.orderVent]; (repeat' split) <;> simp
@[simp] theorem Work.startPumping_context (w : Work) (f : Fill) : (w.startPumping f).context = w.context := by
  simp only [Work.startPumping]; (repeat' split) <;> simp [context_foldl]
@[simp] theorem Work.tryPump_context (w : Work) : (w.tryPump).context = w.context := by
  simp only [Work.tryPump]; (repeat' split) <;> simp
@[simp] theorem Work.suspendFill_context (w : Work) : (w.suspendFill).context = w.context := by
  simp only [Work.suspendFill]; (repeat' split) <;> simp
@[simp] theorem Work.suspendRevoked_context (w : Work) : (w.suspendRevoked).context = w.context := by
  simp only [Work.suspendRevoked]; split
  · rfl
  · exact Work.suspendFill_context w
@[simp] theorem Work.readingChanged_context (w : Work) (reading : Nat) :
    (w.readingChanged reading).context = w.context := by
  simp only [Work.readingChanged]; (repeat' split) <;> simp
@[simp] theorem Work.fillFailed_context (w : Work) : (w.fillFailed).context = w.context := by
  simp only [Work.fillFailed]; simp
@[simp] theorem Work.takeFill_context (w : Work) (f : Fill) : (w.takeFill f).context = w.context := by
  simp only [Work.takeFill]; (repeat' split) <;> simp
@[simp] theorem Work.takeMeasure_context (w : Work) (c : CellIx) : (w.takeMeasure c).context = w.context := by
  simp only [Work.takeMeasure]; simp
@[simp] theorem Work.lookManifold_context (w : Work) : (w.lookManifold).context = w.context := by
  simp only [Work.lookManifold]; (repeat' split) <;> simp
@[simp] theorem Work.measureSettled_context (w : Work) (c : CellIx) (reading : Nat) :
    (w.measureSettled c reading).context = w.context := by
  simp only [Work.measureSettled]; simp
@[simp] theorem Work.requestProtectFill_context (w : Work) : (w.requestProtectFill).context = w.context := by
  simp only [Work.requestProtectFill]; (repeat' split) <;> simp
@[simp] theorem Work.requestMassageFill_context (w : Work) (cells : List CellIx) (peak : Nat) :
    (w.requestMassageFill cells peak).context = w.context := by
  simp only [Work.requestMassageFill]; (repeat' split) <;> simp
@[simp] theorem Work.withdrawMassageFill_context (w : Work) : (w.withdrawMassageFill).context = w.context := by
  simp only [Work.withdrawMassageFill]; (repeat' split) <;> simp
@[simp] theorem Work.setAdj_context (w : Work) (c : CellIx) (a : Option Adjustment) : (w.setAdj c a).context = w.context := (rfl)
@[simp] theorem Work.adjMeasure_context (w : Work) (c : CellIx) (a : Adjustment) :
    (w.adjMeasure c a).context = w.context := by
  simp only [Work.adjMeasure]; simp
@[simp] theorem Work.adjRound_context (w : Work) (c : CellIx) (a : Adjustment) :
    (w.adjRound c a).context = w.context := by
  simp only [Work.adjRound]; (repeat' split) <;> simp
@[simp] theorem Work.reportSupport_context (w : Work) : (w.reportSupport).context = w.context := by
  simp only [Work.reportSupport]; (repeat' split) <;> simp
@[simp] theorem Work.endAdj_context (w : Work) (c : CellIx) (a : Adjustment) (e : AdjEnd) :
    (w.endAdj c a e).context = w.context := by
  simp only [Work.endAdj]; (repeat' split) <;> simp
@[simp] theorem Work.adjReading_context (w : Work) (c : CellIx) (p : Nat) :
    (w.adjReading c p).context = w.context := by
  simp only [Work.adjReading]; (repeat' split) <;> simp
@[simp] theorem Work.adjOpEnded_context (w : Work) (c : CellIx) (e : AirEnd) :
    (w.adjOpEnded c e).context = w.context := by
  simp only [Work.adjOpEnded]; (repeat' split) <;> simp
@[simp] theorem Work.adjVentOver_context (w : Work) (c : CellIx) : (w.adjVentOver c).context = w.context := by
  simp only [Work.adjVentOver]; (repeat' split) <;> simp
@[simp] theorem Work.requestAdj_context (w : Work) (c : CellIx) (cause : AdjCause) :
    (w.requestAdj c cause).context = w.context := by
  simp only [Work.requestAdj]; (repeat' split) <;> simp
@[simp] theorem Work.requestAdjs_context (w : Work) (cells : List CellIx) (cause : AdjCause) :
    (w.requestAdjs cells cause).context = w.context := by
  simp only [Work.requestAdjs]; simp [context_foldl]
@[simp] theorem Work.setLevels_context (w : Work) (lu ll b : Nat) : (w.setLevels lu ll b).context = w.context := by
  simp only [Work.setLevels]; (repeat' split) <;> simp
@[simp] theorem Work.leakExpired_context (w : Work) (c : CellIx) : (w.leakExpired c).context = w.context := by
  simp only [Work.leakExpired]; (repeat' split) <;> simp
@[simp] theorem Work.supportPress_context (w : Work) (k : SupportSwitch) :
    (w.supportPress k).context = w.context := by
  simp only [Work.supportPress]; (repeat' split) <;> simp
@[simp] theorem Work.setHold_context (w : Work) (h : BolsterHold) : (w.setHold h).context = w.context := (rfl)
@[simp] theorem Work.holdProtect_context (w : Work) : (w.holdProtect).context = w.context := by
  simp only [Work.holdProtect]; simp [context_foldl]
@[simp] theorem Work.holdNone_context (w : Work) : (w.holdNone).context = w.context := by
  simp only [Work.holdNone]; simp
@[simp] theorem Work.holdPostcrash_context (w : Work) : (w.holdPostcrash).context = w.context := by
  simp only [Work.holdPostcrash]; (repeat' split) <;> simp [context_foldl]
@[simp] theorem Work.pneuFollows_context (w : Work) (old new : PcuState) :
    (w.pneuFollows old new).context = w.context := by
  simp only [Work.pneuFollows]; (repeat' split) <;> simp
@[simp] theorem Work.massageCellsAbsent_context (w : Work) : (w.massageCellsAbsent).context = w.context := by
  simp only [Work.massageCellsAbsent]; simp [context_foldl]
@[simp] theorem Work.massageCellsPresent_context (w : Work) : (w.massageCellsPresent).context = w.context := by
  simp only [Work.massageCellsPresent]; simp [context_foldl]
@[simp] theorem Work.cancelPneu_context (w : Work) (leak : Option Time) :
    (w.cancelPneu leak).context = w.context := by
  simp only [Work.cancelPneu]; simp [context_foldl]
@[simp] theorem Work.restartPneu_context (w : Work) : (w.restartPneu).context = w.context := by
  simp only [Work.restartPneu]; simp
@[simp] theorem Work.sleepPneu_context (w : Work) : (w.sleepPneu).context = w.context := by
  simp only [Work.sleepPneu]; simp [context_foldl]
@[simp] theorem Work.wakePneu_context (w : Work) : (w.wakePneu).context = w.context := by
  simp only [Work.wakePneu]; simp [context_foldl]
@[simp] theorem Work.modMassage_context (w : Work) (f : Massage → Massage) : (w.modMassage f).context = w.context := (rfl)
@[simp] theorem Work.tellMassage_context (w : Work) (reason : MassageReason) :
    (w.tellMassage reason).context = w.context := by
  simp only [Work.tellMassage]; simp
@[simp] theorem Work.changeProgram_context (w : Work) (p : Nat) : (w.changeProgram p).context = w.context := by
  simp only [Work.changeProgram]; (repeat' split) <;> simp
@[simp] theorem Work.pendingTakesEffect_context (w : Work) : (w.pendingTakesEffect).context = w.context := by
  simp only [Work.pendingTakesEffect]; (repeat' split) <;> simp
@[simp] theorem Work.startHold_context (w : Work) : (w.startHold).context = w.context := (rfl)
@[simp] theorem Work.startStep_context (w : Work) (i : Nat) : (w.startStep i).context = w.context := by
  simp only [Work.startStep]; (repeat' split) <;> simp [context_foldl]
@[simp] theorem Work.nextStep_context (w : Work) : (w.nextStep).context = w.context := by
  simp only [Work.nextStep]; (repeat' split) <;> simp
@[simp] theorem Work.startSession_context (w : Work) (reason : MassageReason) :
    (w.startSession reason).context = w.context := by
  simp only [Work.startSession]; simp
@[simp] theorem Work.enterVenting_context (w : Work) (reason : MassageReason) :
    (w.enterVenting reason).context = w.context := by
  simp only [Work.enterVenting]; simp [context_foldl]
@[simp] theorem Work.endSession_context (w : Work) (reason : MassageReason) :
    (w.endSession reason).context = w.context := by
  simp only [Work.endSession]; (repeat' split) <;> simp
@[simp] theorem Work.ventingToOff_context (w : Work) (reason : MassageReason) :
    (w.ventingToOff reason).context = w.context := by
  simp only [Work.ventingToOff]; simp
@[simp] theorem Work.stopMassage_context (w : Work) : (w.stopMassage).context = w.context := by
  simp only [Work.stopMassage]; simp
@[simp] theorem Work.directOff_context (w : Work) (reason : MassageReason) :
    (w.directOff reason).context = w.context := by
  simp only [Work.directOff]; (repeat' split) <;> simp
theorem Work.resumeWith_context (w : Work) (f : Work → Work) (h : ∀ w, (f w).context = w.context) :
    (w.resumeWith f).context = w.context := by
  simp only [Work.resumeWith]; split <;> simp [h]
@[simp] theorem Work.causeLeft_context (w : Work) (f : Work → Work) (h : ∀ w, (f w).context = w.context) :
    (w.causeLeft f).context = w.context := by
  simp only [Work.causeLeft]; split <;> simp [Work.resumeWith_context, h]
@[simp] theorem Work.addCause_context (w : Work) (f : Massage → Massage) : (w.addCause f).context = w.context := by
  simp only [Work.addCause]; (repeat' split) <;> simp
@[simp] theorem Work.massageShed_context (w : Work) : (w.massageShed).context = w.context := by
  simp only [Work.massageShed]; (repeat' split) <;> simp
@[simp] theorem Work.massageProtect_context (w : Work) : (w.massageProtect).context = w.context := by
  simp only [Work.massageProtect]; (repeat' split) <;> simp
@[simp] theorem Work.massageUnprotect_context (w : Work) : (w.massageUnprotect).context = w.context := by
  simp only [Work.massageUnprotect]; (repeat' split) <;> simp
@[simp] theorem Work.resumeIfFree_context (w : Work) (f : Work → Work) (h : ∀ w, (f w).context = w.context) :
    (w.resumeIfFree f).context = w.context := by
  simp only [Work.resumeIfFree]; split <;> simp [Work.resumeWith_context, h]
@[simp] theorem Work.massageUnprotectHeld_context (w : Work) : (w.massageUnprotectHeld).context = w.context := by
  simp only [Work.massageUnprotectHeld]; (repeat' split) <;> simp
@[simp] theorem Work.massageRestore_context (w : Work) (snap : Option Snapshot) :
    (w.massageRestore snap).context = w.context := by
  simp only [Work.massageRestore]; (repeat' split) <;> simp
@[simp] theorem Work.pumpCauseLeft_context (w : Work) : (w.pumpCauseLeft).context = w.context := by
  simp only [Work.pumpCauseLeft]; (repeat' split) <;> simp
@[simp] theorem Work.fillAborted_context (w : Work) : (w.fillAborted).context = w.context := by
  simp only [Work.fillAborted]; (repeat' split) <;> simp
@[simp] theorem Work.massageFillEnded_context (w : Work) (e : AirEnd) :
    (w.massageFillEnded e).context = w.context := by
  simp only [Work.massageFillEnded]; (repeat' split) <;> simp
@[simp] theorem Work.massageFillSuspended_context (w : Work) : (w.massageFillSuspended).context = w.context := by
  simp only [Work.massageFillSuspended]; (repeat' split) <;> simp
@[simp] theorem Work.massageFillResumed_context (w : Work) : (w.massageFillResumed).context = w.context := by
  simp only [Work.massageFillResumed]; (repeat' split) <;> simp
@[simp] theorem Work.programEdge_context (w : Work) (p : Nat) : (w.programEdge p).context = w.context := by
  simp only [Work.programEdge]; (repeat' split) <;> simp
@[simp] theorem Work.intensityEdge_context (w : Work) (i : Nat) : (w.intensityEdge i).context = w.context := by
  simp only [Work.intensityEdge]; (repeat' split) <;> simp
@[simp] theorem Work.askStart_context (w : Work) (reason : MassageReason) :
    (w.askStart reason).context = w.context := by
  simp only [Work.askStart]; (repeat' split) <;> simp
@[simp] theorem Work.renewSession_context (w : Work) : (w.renewSession).context = w.context := (rfl)
@[simp] theorem Work.switchEdge_context (w : Work) (on : Bool) : (w.switchEdge on).context = w.context := by
  simp only [Work.switchEdge]; (repeat' split) <;> simp
@[simp] theorem Work.comfortMassage_context (w : Work) (f : ComfortFields) :
    (w.comfortMassage f).context = w.context := by
  simp only [Work.comfortMassage]; (repeat' split) <;> simp
@[simp] theorem Work.massageRecall_context (w : Work) (program intensity : Nat) :
    (w.massageRecall program intensity).context = w.context := by
  simp only [Work.massageRecall]; (repeat' split) <;> simp
@[simp] theorem Work.massageIgnition_context (w : Work) : (w.massageIgnition).context = w.context := by
  simp only [Work.massageIgnition]; (repeat' split) <;> simp
@[simp] theorem Work.streamFrame_context (w : Work) (q : StreamStep) : (w.streamFrame q).context = w.context := (rfl)
@[simp] theorem Work.refreshZone_context (w : Work) (z : Zone) : (w.refreshZone z).context = w.context := by
  simp only [Work.refreshZone]; (repeat' split) <;> simp
@[simp] theorem Work.refreshHeat_context (w : Work) : (w.refreshHeat).context = w.context := by
  simp only [Work.refreshHeat]; simp
@[simp] theorem Work.trimApplied_context (w : Work) : (w.trimApplied).context = w.context := by
  simp only [Work.trimApplied]; simp
@[simp] theorem Work.tellHeat_context (w : Work) (reason : HeatReason) : (w.tellHeat reason).context = w.context := by
  simp only [Work.tellHeat]; simp
@[simp] theorem Work.judgeCutoff_context (w : Work) (z : Zone) : (w.judgeCutoff z).context = w.context := by
  simp only [Work.judgeCutoff]; (repeat' split) <;> simp
@[simp] theorem Work.sensorOpen_context (w : Work) (z : Zone) : (w.sensorOpen z).context = w.context := by
  simp only [Work.sensorOpen]; (repeat' split) <;> simp
@[simp] theorem Work.sensorShort_context (w : Work) (z : Zone) : (w.sensorShort z).context = w.context := by
  simp only [Work.sensorShort]; (repeat' split) <;> simp
@[simp] theorem Work.sensorValid_context (w : Work) (z : Zone) (t : Int) :
    (w.sensorValid z t).context = w.context := by
  simp only [Work.sensorValid]; (repeat' split) <;> simp
@[simp] theorem Work.heaterDriven_context (w : Work) (on : Bool) : (w.heaterDriven on).context = w.context := by
  simp only [Work.heaterDriven]; (repeat' split) <;> simp
@[simp] theorem Work.measured_context (w : Work) (z : Zone) (count : Nat) : (w.measured z count).context = w.context := by
  unfold Work.measured
  cases convertCount count <;> dsimp only <;> split <;> simp
@[simp] theorem Work.intervalStart_context (w : Work) : (w.intervalStart).context = w.context := (rfl)
@[simp] theorem Work.periodBegin_context (w : Work) : (w.periodBegin).context = w.context := by
  simp only [Work.periodBegin]; simp
@[simp] theorem Work.levelRequest_context (w : Work) (z : Zone) (l : Nat) : (w.levelRequest z l).1.context = w.context := by
  simp only [Work.levelRequest]; (repeat' split) <;> simp
theorem levels_context (reqs : List (Zone × Nat)) (acc : Work × List LevelOutcome) :
    (reqs.foldl (fun (acc : Work × List LevelOutcome) r =>
      ((acc.1.levelRequest r.1 r.2).1, acc.2 ++ [(acc.1.levelRequest r.1 r.2).2])) acc).1.context = acc.1.context := by
  induction reqs generalizing acc with
  | nil => rfl
  | cons r l ih => rw [List.foldl_cons, ih]; simp

@[simp] theorem Work.levelRequests_context (w : Work) (h : HeatReason) (reqs : List (Zone × Nat)) :
    (w.levelRequests h reqs).context = w.context := by
  simp only [Work.levelRequests]; split <;> simp [levels_context]
@[simp] theorem Work.comfortHeat_context (w : Work) (f : ComfortFields) : (w.comfortHeat f).context = w.context := by
  simp only [Work.comfortHeat]; (repeat' split) <;> simp
@[simp] theorem Work.heatRecall_context (w : Work) (cushion back : Nat) :
    (w.heatRecall cushion back).context = w.context := by
  simp only [Work.heatRecall]; simp
@[simp] theorem Work.levelsOff_context (w : Work) : (w.levelsOff).context = w.context := by
  simp only [Work.levelsOff]; simp
@[simp] theorem Work.heatIgnitionOff_context (w : Work) : (w.heatIgnitionOff).context = w.context := by
  simp only [Work.heatIgnitionOff]; (repeat' split) <;> simp
@[simp] theorem Work.takeHeld_context (w : Work) (z : Zone) : (w.takeHeld z).context = w.context := by
  simp only [Work.takeHeld]; (repeat' split) <;> simp
@[simp] theorem Work.heatIgnitionOn_context (w : Work) : (w.heatIgnitionOn).context = w.context := by
  simp only [Work.heatIgnitionOn]; (repeat' split) <;> simp
@[simp] theorem Work.stepDownEnds_context (w : Work) (z : Zone) : (w.stepDownEnds z).context = w.context := by
  simp only [Work.stepDownEnds]; simp
@[simp] theorem Work.dropHeld_context (w : Work) : (w.dropHeld).context = w.context := by
  simp only [Work.dropHeld]; simp
@[simp] theorem Work.heatFollows_context (w : Work) (new : PcuState) : (w.heatFollows new).context = w.context := by
  simp only [Work.heatFollows]; (repeat' split) <;> simp
@[simp] theorem Work.trimsChanged_context (w : Work) (old : Seat) : (w.trimsChanged old).context = w.context := by
  simp only [Work.trimsChanged]; (repeat' split) <;> simp
@[simp] theorem Work.restartHeat_context (w : Work) : (w.restartHeat).context = w.context := by
  simp only [Work.restartHeat]; (repeat' split) <;> simp
@[simp] theorem Work.sleepHeat_context (w : Work) : (w.sleepHeat).context = w.context := (rfl)
@[simp] theorem Work.wakeHeat_context (w : Work) : (w.wakeHeat).context = w.context := by
  simp only [Work.wakeHeat]; simp
@[simp] theorem Work.modPcu_context (w : Work) (f : Pcu → Pcu) : (w.modPcu f).context = w.context := (rfl)
@[simp] theorem Work.tellPcu_context (w : Work) (old : PcuState) (cause : PcuCause) :
    (w.tellPcu old cause).context = w.context := by
  simp only [Work.tellPcu]; simp
@[simp] theorem Work.allocFollows_context (w : Work) (old new : PcuState) :
    (w.allocFollows old new).context = w.context := by
  simp only [Work.allocFollows]; (repeat' split) <;> simp
@[simp] theorem Work.motionFollows_context (w : Work) (new : PcuState) :
    (w.motionFollows new).context = w.context := by
  simp only [Work.motionFollows]; (repeat' split) <;> simp
@[simp] theorem Work.massageFollows_context (w : Work) (new : PcuState) :
    (w.massageFollows new).context = w.context := by
  simp only [Work.massageFollows]; (repeat' split) <;> simp
@[simp] theorem Work.enterPcu_context (w : Work) (new : PcuState) : (w.enterPcu new).context = w.context := by
  simp only [Work.enterPcu]; simp
@[simp] theorem Work.enterProtecting_context (w : Work) : (w.enterProtecting).context = w.context := by
  simp only [Work.enterProtecting]; (repeat' split) <;> simp
@[simp] theorem Work.enterHolding_context (w : Work) (cause : PcuCause) :
    (w.enterHolding cause).context = w.context := by
  simp only [Work.enterHolding]; simp
@[simp] theorem Work.enterRestoring_context (w : Work) : (w.enterRestoring).context = w.context := by
  simp only [Work.enterRestoring]; simp
@[simp] theorem Work.enterNormal_context (w : Work) (cause : PcuCause) :
    (w.enterNormal cause).context = w.context := by
  simp only [Work.enterNormal]; simp
@[simp] theorem Work.enterPostcrash_context (w : Work) : (w.enterPostcrash).context = w.context := by
  simp only [Work.enterPostcrash]; simp
@[simp] theorem Work.deliverLevel_context (w : Work) (l : PrecrashLevel) (c : PcuCause) :
    (w.deliverLevel l c).context = w.context := by
  unfold Work.deliverLevel; split <;> simp
@[simp] theorem Work.holdEnds_context (w : Work) : (w.holdEnds).context = w.context := by
  simp only [Work.holdEnds]; (repeat' split) <;> simp
@[simp] theorem Work.pcuSequenceDone_context (w : Work) (k : SeqKind) (code : Code) :
    (w.pcuSequenceDone k code).context = w.context := by
  simp only [Work.pcuSequenceDone]; (repeat' split) <;> simp
@[simp] theorem Work.pcuRecallTaken_context (w : Work) : (w.pcuRecallTaken).context = w.context := by
  simp only [Work.pcuRecallTaken]; (repeat' split) <;> simp
@[simp] theorem Work.pcuAxisPress_context (w : Work) (a : Axis) : (w.pcuAxisPress a).context = w.context := by
  simp only [Work.pcuAxisPress]; (repeat' split) <;> simp
@[simp] theorem Work.postcrashRelease_context (w : Work) : (w.postcrashRelease).context = w.context := by
  simp only [Work.postcrashRelease]; (repeat' split) <;> simp
@[simp] theorem Work.sleepPcu_context (w : Work) : (w.sleepPcu).context = w.context := by
  simp only [Work.sleepPcu]; simp
@[simp] theorem Work.handle_context (w : Work) (n : Notice) : (w.handle n).context = w.context := by
  unfold Work.handle; split <;> simp
@[simp] theorem Work.drain_context (n : Nat) (w : Work) : (w.drain n).context = w.context := by
  induction n generalizing w with
  | zero => rfl
  | succ n ih =>
    simp only [Work.drain]; split
    · rfl
    · rw [ih, Work.handle_context]
@[simp] theorem Work.mapAxes_context (w : Work) (f : AxisRec → AxisRec) : (w.mapAxes f).context = w.context := (rfl)
@[simp] theorem Work.supplyFaults_context (w : Work) (b : Band) : (w.supplyFaults b).context = w.context := by
  simp only [Work.supplyFaults]; (repeat' split) <;> simp

end Sys2Proof.Machine
end

