-- ==== Sys2Proof/Laws/Rest.lean ====
section
/-!
SUPPORT. A pending SLEEP is never set by what the blocks do to each other inside one step.
-/
namespace Sys2Proof.Machine

open Sys2Proof

/-- No SLEEP is pending. -/
def Seat.rested (s : Seat) : Prop := s.power.sleepPending = false

@[simp] theorem Seat.rested_mk (now band peers alloc motion store pneu massage heat pcu faults switches power) :
    Seat.rested ⟨now, band, peers, alloc, motion, store, pneu, massage, heat, pcu, faults, switches, power⟩ =
      (power.sleepPending = false) := (rfl)

@[simp] theorem Seat.rested_eta (s : Seat) : (s.power.sleepPending = false) = s.rested := (rfl)

theorem rested_foldl {α : Type} (f : Work → α → Work) (h : ∀ w x, w.rested → (f w x).rested) (l : List α) (w : Work)
    (hw : w.rested) : (l.foldl f w).rested := by
  induction l generalizing w with
  | nil => exact hw
  | cons x l ih => exact ih _ (h _ _ hw)

@[simp] theorem Work.post_rested (w : Work) (n : Notice) (hw : w.rested) : (w.post n).rested := hw
@[simp] theorem Work.emit_rested (w : Work) (i : Item) (hw : w.rested) : (w.emit i).rested := hw
@[simp] theorem Work.event_rested (w : Work) (k : EventKind) (content : List Byte) (hw : w.rested) : (w.event k content).rested := hw
@[simp] theorem Work.answer_rested (w : Work) (code : Nat) (r : Result) (sub : Option Nat) (content : List Byte) (hw : w.rested) : (w.answer code r sub content).rested := hw
@[simp] theorem Work.latch_rested (w : Work) (x : FaultId) (hw : w.rested) : (w.latch x).rested := by
  unfold Work.latch; split <;> exact hw
@[simp] theorem Work.raise_rested (w : Work) (k : FaultKind) (index : Nat) (hw : w.rested) :
    (w.raise k index).rested := by
  simp only [Work.raise]; simp +contextual (maxDischargeDepth := 30) [hw]
@[simp] theorem Work.raiseLive_rested (w : Work) (k : FaultKind) (i : Nat) (hw : w.rested) : (w.raiseLive k i).rested := by
  unfold Work.raiseLive; exact Work.latch_rested _ _ hw
@[simp] theorem Work.clearLive_rested (w : Work) (k : FaultKind) (index : Nat) (hw : w.rested) : (w.clearLive k index).rested := hw
@[simp] theorem Work.allocate_rested (w : Work) (f : AllocEnv → Allocating → Allocating) (hw : w.rested) : (w.allocate f).rested := hw
@[simp] theorem Work.restartRunOn_rested (w : Work) (hw : w.rested) : w.restartRunOn.rested := by
  unfold Work.restartRunOn; split
  · rfl
  · exact hw
@[simp] theorem Work.outputStart_rested (w : Work) (hw : w.rested) : (w.outputStart).rested := hw
@[simp] theorem Work.setAxis_rested (w : Work) (a : Axis) (r : AxisRec) (hw : w.rested) : (w.setAxis a r).rested := hw
@[simp] theorem Work.setCell_rested (w : Work) (c : CellIx) (r : Cell) (hw : w.rested) : (w.setCell c r).rested := hw
@[simp] theorem Work.setZone_rested (w : Work) (z : Zone) (r : ZoneRec) (hw : w.rested) : (w.setZone z r).rested := by
  cases z <;> exact hw
@[simp] theorem Work.dropSnapshotEntry_rested (w : Work) (a : Axis) (hw : w.rested) : (w.dropSnapshotEntry a).rested := hw
@[simp] theorem Work.makeClaim_rested (w : Work) (a : Axis) (hw : w.rested) : (w.makeClaim a).rested := by
  simp only [Work.makeClaim]; (repeat' split) <;> simp +contextual (maxDischargeDepth := 30) [hw]
@[simp] theorem Work.awaitAdmission_rested (w : Work) (a : Axis) (hw : w.rested) : (w.awaitAdmission a).rested := hw
@[simp] theorem Work.leaveAdmission_rested (w : Work) (a : Axis) (hw : w.rested) : (w.leaveAdmission a).rested := hw
@[simp] theorem Work.admitFrom_rested (n : Nat) (w : Work) (hw : w.rested) : (w.admitFrom n).rested := by
  induction n generalizing w with
  | zero => exact hw
  | succ n ih => simp only [Work.admitFrom]; (repeat' split) <;> simp +contextual (maxDischargeDepth := 30) [ih, hw]
@[simp] theorem Work.admitWaiting_rested (w : Work) (hw : w.rested) : (w.admitWaiting).rested := by
  simp only [Work.admitWaiting]; simp +contextual (maxDischargeDepth := 30) [hw]
@[simp] theorem Work.giveOrder_rested (w : Work) (a : Axis) (o : Order) (hw : w.rested) :
    (w.giveOrder a o).rested := by
  simp only [Work.giveOrder]; (repeat' split) <;> simp +contextual (maxDischargeDepth := 30) [hw]
@[simp] theorem Work.enterStarting_rested (w : Work) (a : Axis) (hw : w.rested) : (w.enterStarting a).rested := by
  simp only [Work.enterStarting]; (repeat' split) <;> simp +contextual (maxDischargeDepth := 30) [hw]
@[simp] theorem Work.tryStart_rested (w : Work) (a : Axis) (hw : w.rested) : (w.tryStart a).rested := by
  simp only [Work.tryStart]; (repeat' split) <;> simp +contextual (maxDischargeDepth := 30) [hw]
@[simp] theorem Work.removeDrive_rested (w : Work) (a : Axis) (hw : w.rested) : (w.removeDrive a).rested := by
  simp only [Work.removeDrive]; (repeat' split) <;> simp +contextual (maxDischargeDepth := 30) [hw]
@[simp] theorem Work.setOpState_rested (w : Work) (a : Axis) (st : OpState) (hw : w.rested) : (w.setOpState a st).rested := hw
@[simp] theorem Work.memberEnded_rested (w : Work) (a : Axis) (code : Code) (hw : w.rested) :
    (w.memberEnded a code).rested := by
  simp only [Work.memberEnded]; (repeat' split) <;> simp +contextual (maxDischargeDepth := 30) [hw]
@[simp] theorem Work.endOp_rested (w : Work) (a : Axis) (code : Code) (hw : w.rested) : (w.endOp a code).rested := by
  simp only [Work.endOp]; (repeat' split) <;> simp +contextual (maxDischargeDepth := 30) [hw]
@[simp] theorem Work.endOps_rested (w : Work) (axes : List Axis) (code : Code) (hw : w.rested) :
    (w.endOps axes code).rested := by
  simp only [Work.endOps]; simp +contextual (maxDischargeDepth := 30) [hw, rested_foldl]
@[simp] theorem Work.withdrawWaiting_rested (w : Work) (axes : List Axis) (hw : w.rested) :
    (w.withdrawWaiting axes).rested := by
  simp only [Work.withdrawWaiting]; simp +contextual (maxDischargeDepth := 30) [hw, rested_foldl]
@[simp] theorem Work.installOp_rested (w : Work) (a : Axis) (o : Op) (hw : w.rested) : (w.installOp a o).rested := by
  simp only [Work.installOp]; simp +contextual (maxDischargeDepth := 30) [hw]
@[simp] theorem Work.beginJog_rested (w : Work) (a : Axis) (o : Op) (hw : w.rested) : (w.beginJog a o).rested := by
  simp only [Work.beginJog]; (repeat' split) <;> simp +contextual (maxDischargeDepth := 30) [hw]
@[simp] theorem Work.beginTarget_rested (w : Work) (a : Axis) (o : Op) (hw : w.rested) :
    (w.beginTarget a o).rested := by
  simp only [Work.beginTarget]; (repeat' split) <;> simp +contextual (maxDischargeDepth := 30) [hw]
@[simp] theorem Work.beginOp_rested (w : Work) (a : Axis) (o : Op) (hw : w.rested) : (w.beginOp a o).rested := by
  simp only [Work.beginOp]; (repeat' split) <;> simp +contextual (maxDischargeDepth := 30) [hw]
@[simp] theorem Work.createOp_rested (w : Work) (a : Axis) (o : Op) (hw : w.rested) : (w.createOp a o).rested := by
  simp only [Work.createOp]; simp +contextual (maxDischargeDepth := 30) [hw]
@[simp] theorem Work.gainReference_rested (w : Work) (a : Axis) (hw : w.rested) : (w.gainReference a).rested := by
  simp only [Work.gainReference]; simp +contextual (maxDischargeDepth := 30) [hw]
@[simp] theorem Work.loseReference_rested (w : Work) (a : Axis) (hw : w.rested) : (w.loseReference a).rested := by
  simp only [Work.loseReference]; (repeat' split) <;> simp +contextual (maxDischargeDepth := 30) [hw]
@[simp] theorem Work.arrived_rested (w : Work) (a : Axis) (hw : w.rested) : (w.arrived a).rested := by
  simp only [Work.arrived]; (repeat' split) <;> simp +contextual (maxDischargeDepth := 30) [hw]
@[simp] theorem Work.stalled_rested (w : Work) (a : Axis) (hw : w.rested) : (w.stalled a).rested := by
  simp only [Work.stalled]; (repeat' split) <;> simp +contextual (maxDischargeDepth := 30) [hw]
@[simp] theorem Work.axisRevoked_rested (w : Work) (a : Axis) (cause : RevokeCause) (hw : w.rested) :
    (w.axisRevoked a cause).rested := by
  simp only [Work.axisRevoked]; (repeat' split) <;> simp +contextual (maxDischargeDepth := 30) [hw]
@[simp] theorem Work.takeEdge_rested (w : Work) (a : Axis) (hw : w.rested) : (w.takeEdge a).rested := by
  simp only [Work.takeEdge]; (repeat' split) <;> simp +contextual (maxDischargeDepth := 30) [hw]
@[simp] theorem Work.judgeTarget_rested (w : Work) (a : Axis) (hw : w.rested) : (w.judgeTarget a).rested := by
  simp only [Work.judgeTarget]; (repeat' split) <;> simp +contextual (maxDischargeDepth := 30) [hw]
@[simp] theorem Work.backOff_rested (w : Work) (a : Axis) (hw : w.rested) : (w.backOff a).rested := by
  simp only [Work.backOff]; (repeat' split) <;> simp +contextual (maxDischargeDepth := 30) [hw]
@[simp] theorem Work.homeReturn_rested (w : Work) (a : Axis) (o : Op) (hw : w.rested) :
    (w.homeReturn a o).rested := by
  simp only [Work.homeReturn]; (repeat' split) <;> simp +contextual (maxDischargeDepth := 30) [hw]
@[simp] theorem Work.settle_rested (w : Work) (a : Axis) (hw : w.rested) : (w.settle a).rested := by
  simp only [Work.settle]; (repeat' split) <;> simp +contextual (maxDischargeDepth := 30) [hw]
@[simp] theorem Work.leaveCoast_rested (w : Work) (a : Axis) (hw : w.rested) : (w.leaveCoast a).rested := by
  simp only [Work.leaveCoast]; (repeat' split) <;> simp +contextual (maxDischargeDepth := 30) [hw]
@[simp] theorem Work.coastEnded_rested (w : Work) (a : Axis) (hw : w.rested) : (w.coastEnded a).rested := by
  simp only [Work.coastEnded]; simp +contextual (maxDischargeDepth := 30) [hw]
@[simp] theorem Work.brakeEnded_rested (w : Work) (a : Axis) (hw : w.rested) : (w.brakeEnded a).rested := by
  simp only [Work.brakeEnded]; simp +contextual (maxDischargeDepth := 30) [hw]
@[simp] theorem Work.obstructionFound_rested (w : Work) (a : Axis) (hw : w.rested) :
    (w.obstructionFound a).rested := by
  simp only [Work.obstructionFound]; simp +contextual (maxDischargeDepth := 30) [hw]
@[simp] theorem Work.updateMember_rested (w : Work) (a : Axis) (f : Member → Member) (hw : w.rested) : (w.updateMember a f).rested := hw
@[simp] theorem Work.finishSequence_rested (w : Work) (q : Sequence) (result : Code) (hw : w.rested) : (w.finishSequence q result).rested := hw
@[simp] theorem Work.offer_rested (w : Work) (a : Axis) (hw : w.rested) : (w.offer a).rested := by
  simp only [Work.offer]; (repeat' split) <;> simp +contextual (maxDischargeDepth := 30) [hw]
@[simp] theorem Work.offerFrom_rested (n : Nat) (w : Work) (hw : w.rested) : (w.offerFrom n).rested := by
  induction n generalizing w with
  | zero => exact hw
  | succ n ih => simp only [Work.offerFrom]; (repeat' split) <;> simp +contextual (maxDischargeDepth := 30) [ih, hw]
@[simp] theorem Work.advanceSequence_rested (w : Work) (hw : w.rested) : (w.advanceSequence).rested := by
  simp only [Work.advanceSequence]; (repeat' split) <;> simp +contextual (maxDischargeDepth := 30) [hw]
@[simp] theorem Work.endSequence_rested (w : Work) (code : Code) (hw : w.rested) : (w.endSequence code).rested := by
  simp only [Work.endSequence]; (repeat' split) <;> simp +contextual (maxDischargeDepth := 30) [hw]
@[simp] theorem Work.endSequenceOf_rested (w : Work) (k : SeqKind → Bool) (code : Code) (hw : w.rested) :
    (w.endSequenceOf k code).rested := by
  simp only [Work.endSequenceOf]; (repeat' split) <;> simp +contextual (maxDischargeDepth := 30) [hw]
@[simp] theorem Work.makeRoom_rested (w : Work) (k : SeqKind) (hw : w.rested) : (w.makeRoom k).rested := by
  cases k <;> simp +contextual (maxDischargeDepth := 30) [Work.makeRoom, hw]
@[simp] theorem Work.createSequence_rested (w : Work) (k : SeqKind) (tag : Nat) (ms : List Member) (hw : w.rested) :
    (w.createSequence k tag ms).1.rested := by
  simp only [Work.createSequence]; split <;> simp +contextual (maxDischargeDepth := 30) [hw]
@[simp] theorem Work.switchAbort_rested (w : Work) (hw : w.rested) : (w.switchAbort).rested := by
  simp only [Work.switchAbort]; (repeat' split) <;> simp +contextual (maxDischargeDepth := 30) [hw]
@[simp] theorem Work.servePress_rested (w : Work) (a : Axis) (dir : Dir) (hw : w.rested) :
    (w.servePress a dir).rested := by
  simp only [Work.servePress]; (repeat' split) <;> simp +contextual (maxDischargeDepth := 30) [hw]
@[simp] theorem Work.axisRelease_rested (w : Work) (a : Axis) (dir : Dir) (hw : w.rested) :
    (w.axisRelease a dir).rested := by
  simp only [Work.axisRelease]; (repeat' split) <;> simp +contextual (maxDischargeDepth := 30) [hw]
@[simp] theorem Work.moveAxis_rested (w : Work) (a : Axis) (target : Nat) (tag : Nat) (hw : w.rested) :
    (w.moveAxis a target tag).rested := by
  simp only [Work.moveAxis]; (repeat' split) <;> simp +contextual (maxDischargeDepth := 30) [hw]
@[simp] theorem Work.homeAxis_rested (w : Work) (sel : Option Axis) (tag : Nat) (hw : w.rested) :
    (w.homeAxis sel tag).rested := by
  simp only [Work.homeAxis]; (repeat' split) <;> simp +contextual (maxDischargeDepth := 30) [hw]
@[simp] theorem Work.stopAll_rested (w : Work) (hw : w.rested) : (w.stopAll).rested := by
  simp only [Work.stopAll]; simp +contextual (maxDischargeDepth := 30) [hw]
@[simp] theorem Work.restartMotion_rested (w : Work) (hw : w.rested) : (w.restartMotion).rested := by
  simp only [Work.restartMotion]; simp +contextual (maxDischargeDepth := 30) [hw, rested_foldl]
@[simp] theorem Work.setManifold_rested (w : Work) (m : Manifold) (hw : w.rested) : (w.setManifold m).rested := hw
@[simp] theorem Work.setAirQueue_rested (w : Work) (q : List AirEntry) (hw : w.rested) : (w.setAirQueue q).rested := hw
@[simp] theorem Work.queueAir_rested (w : Work) (e : AirEntry) (hw : w.rested) : (w.queueAir e).rested := by
  simp only [Work.queueAir]; simp +contextual (maxDischargeDepth := 30) [hw]
@[simp] theorem Work.closeCells_rested (w : Work) (cells : List CellIx) (reading : Nat) (hw : w.rested) :
    (w.closeCells cells reading).rested := by
  simp only [Work.closeCells]; simp +contextual (maxDischargeDepth := 30) [hw, rested_foldl]
@[simp] theorem Work.tellVentOver_rested (w : Work) (c : CellIx) (hw : w.rested) : (w.tellVentOver c).rested := by
  simp only [Work.tellVentOver]; (repeat' split) <;> simp +contextual (maxDischargeDepth := 30) [hw]
@[simp] theorem Work.stopVent_rested (w : Work) (c : CellIx) (hw : w.rested) : (w.stopVent c).rested := by
  simp only [Work.stopVent]; (repeat' split) <;> simp +contextual (maxDischargeDepth := 30) [hw]
@[simp] theorem Work.tellFillEnd_rested (w : Work) (f : Fill) (e : AirEnd) (hw : w.rested) :
    (w.tellFillEnd f e).rested := by
  simp only [Work.tellFillEnd]; (repeat' split) <;> simp +contextual (maxDischargeDepth := 30) [hw, rested_foldl]
@[simp] theorem Work.leaveManifold_rested (w : Work) (hw : w.rested) : (w.leaveManifold).rested := by
  simp only [Work.leaveManifold]; (repeat' split) <;> simp +contextual (maxDischargeDepth := 30) [hw]
@[simp] theorem Work.tellActiveEnd_rested (w : Work) (m : Manifold) (e : AirEnd) (hw : w.rested) :
    (w.tellActiveEnd m e).rested := by
  simp only [Work.tellActiveEnd]; (repeat' split) <;> simp +contextual (maxDischargeDepth := 30) [hw]
@[simp] theorem Work.endActive_rested (w : Work) (e : AirEnd) (hw : w.rested) : (w.endActive e).rested := by
  simp only [Work.endActive]; simp +contextual (maxDischargeDepth := 30) [hw]
@[simp] theorem Work.orderVent_rested (w : Work) (c : CellIx) (duration : Time) (full : Bool) (hw : w.rested) :
    (w.orderVent c duration full).rested := by
  simp only [Work.orderVent]; (repeat' split) <;> simp +contextual (maxDischargeDepth := 30) [hw]
@[simp] theorem Work.startPumping_rested (w : Work) (f : Fill) (hw : w.rested) : (w.startPumping f).rested := by
  simp only [Work.startPumping]; (repeat' split) <;> simp +contextual (maxDischargeDepth := 30) [hw, rested_foldl]
@[simp] theorem Work.tryPump_rested (w : Work) (hw : w.rested) : (w.tryPump).rested := by
  simp only [Work.tryPump]; (repeat' split) <;> simp +contextual (maxDischargeDepth := 30) [hw]
@[simp] theorem Work.suspendFill_rested (w : Work) (hw : w.rested) : (w.suspendFill).rested := by
  simp only [Work.suspendFill]; (repeat' split) <;> simp +contextual (maxDischargeDepth := 30) [hw]
@[simp] theorem Work.suspendRevoked_rested (w : Work) (hw : w.rested) : (w.suspendRevoked).rested := by
  simp only [Work.suspendRevoked]; split
  · exact hw
  · exact Work.suspendFill_rested w hw
@[simp] theorem Work.readingChanged_rested (w : Work) (reading : Nat) (hw : w.rested) :
    (w.readingChanged reading).rested := by
  simp only [Work.readingChanged]; (repeat' split) <;> simp +contextual (maxDischargeDepth := 30) [hw]
@[simp] theorem Work.fillFailed_rested (w : Work) (hw : w.rested) : (w.fillFailed).rested := by
  simp only [Work.fillFailed]; simp +contextual (maxDischargeDepth := 30) [hw]
@[simp] theorem Work.takeFill_rested (w : Work) (f : Fill) (hw : w.rested) : (w.takeFill f).rested := by
  simp only [Work.takeFill]; (repeat' split) <;> simp +contextual (maxDischargeDepth := 30) [hw]
@[simp] theorem Work.takeMeasure_rested (w : Work) (c : CellIx) (hw : w.rested) : (w.takeMeasure c).rested := by
  simp only [Work.takeMeasure]; simp +contextual (maxDischargeDepth := 30) [hw]
@[simp] theorem Work.lookManifold_rested (w : Work) (hw : w.rested) : (w.lookManifold).rested := by
  simp only [Work.lookManifold]; (repeat' split) <;> simp +contextual (maxDischargeDepth := 30) [hw]
@[simp] theorem Work.measureSettled_rested (w : Work) (c : CellIx) (reading : Nat) (hw : w.rested) :
    (w.measureSettled c reading).rested := by
  simp only [Work.measureSettled]; simp +contextual (maxDischargeDepth := 30) [hw]
@[simp] theorem Work.requestProtectFill_rested (w : Work) (hw : w.rested) : (w.requestProtectFill).rested := by
  simp only [Work.requestProtectFill]; (repeat' split) <;> simp +contextual (maxDischargeDepth := 30) [hw]
@[simp] theorem Work.requestMassageFill_rested (w : Work) (cells : List CellIx) (peak : Nat) (hw : w.rested) :
    (w.requestMassageFill cells peak).rested := by
  simp only [Work.requestMassageFill]; (repeat' split) <;> simp +contextual (maxDischargeDepth := 30) [hw]
@[simp] theorem Work.withdrawMassageFill_rested (w : Work) (hw : w.rested) : (w.withdrawMassageFill).rested := by
  simp only [Work.withdrawMassageFill]; (repeat' split) <;> simp +contextual (maxDischargeDepth := 30) [hw]
@[simp] theorem Work.setAdj_rested (w : Work) (c : CellIx) (a : Option Adjustment) (hw : w.rested) : (w.setAdj c a).rested := hw
@[simp] theorem Work.adjMeasure_rested (w : Work) (c : CellIx) (a : Adjustment) (hw : w.rested) :
    (w.adjMeasure c a).rested := by
  simp only [Work.adjMeasure]; simp +contextual (maxDischargeDepth := 30) [hw]
@[simp] theorem Work.adjRound_rested (w : Work) (c : CellIx) (a : Adjustment) (hw : w.rested) :
    (w.adjRound c a).rested := by
  simp only [Work.adjRound]; (repeat' split) <;> simp +contextual (maxDischargeDepth := 30) [hw]
@[simp] theorem Work.reportSupport_rested (w : Work) (hw : w.rested) : (w.reportSupport).rested := by
  simp only [Work.reportSupport]; (repeat' split) <;> simp +contextual (maxDischargeDepth := 30) [hw]
@[simp] theorem Work.endAdj_rested (w : Work) (c : CellIx) (a : Adjustment) (e : AdjEnd) (hw : w.rested) :
    (w.endAdj c a e).rested := by
  simp only [Work.endAdj]; (repeat' split) <;> simp +contextual (maxDischargeDepth := 30) [hw]
@[simp] theorem Work.adjReading_rested (w : Work) (c : CellIx) (p : Nat) (hw : w.rested) :
    (w.adjReading c p).rested := by
  simp only [Work.adjReading]; (repeat' split) <;> simp +contextual (maxDischargeDepth := 30) [hw]
@[simp] theorem Work.adjOpEnded_rested (w : Work) (c : CellIx) (e : AirEnd) (hw : w.rested) :
    (w.adjOpEnded c e).rested := by
  simp only [Work.adjOpEnded]; (repeat' split) <;> simp +contextual (maxDischargeDepth := 30) [hw]
@[simp] theorem Work.adjVentOver_rested (w : Work) (c : CellIx) (hw : w.rested) : (w.adjVentOver c).rested := by
  simp only [Work.adjVentOver]; (repeat' split) <;> simp +contextual (maxDischargeDepth := 30) [hw]
@[simp] theorem Work.requestAdj_rested (w : Work) (c : CellIx) (cause : AdjCause) (hw : w.rested) :
    (w.requestAdj c cause).rested := by
  simp only [Work.requestAdj]; (repeat' split) <;> simp +contextual (maxDischargeDepth := 30) [hw]
@[simp] theorem Work.requestAdjs_rested (w : Work) (cells : List CellIx) (cause : AdjCause) (hw : w.rested) :
    (w.requestAdjs cells cause).rested := by
  simp only [Work.requestAdjs]; simp +contextual (maxDischargeDepth := 30) [hw, rested_foldl]
@[simp] theorem Work.setLevels_rested (w : Work) (lu ll b : Nat) (hw : w.rested) : (w.setLevels lu ll b).rested := by
  simp only [Work.setLevels]; (repeat' split) <;> simp +contextual (maxDischargeDepth := 30) [hw]
@[simp] theorem Work.leakExpired_rested (w : Work) (c : CellIx) (hw : w.rested) : (w.leakExpired c).rested := by
  simp only [Work.leakExpired]; (repeat' split) <;> simp +contextual (maxDischargeDepth := 30) [hw]
@[simp] theorem Work.supportPress_rested (w : Work) (k : SupportSwitch) (hw : w.rested) :
    (w.supportPress k).rested := by
  simp only [Work.supportPress]; (repeat' split) <;> simp +contextual (maxDischargeDepth := 30) [hw]
@[simp] theorem Work.setHold_rested (w : Work) (h : BolsterHold) (hw : w.rested) : (w.setHold h).rested := hw
@[simp] theorem Work.holdProtect_rested (w : Work) (hw : w.rested) : (w.holdProtect).rested := by
  simp only [Work.holdProtect]; simp +contextual (maxDischargeDepth := 30) [hw, rested_foldl]
@[simp] theorem Work.holdNone_rested (w : Work) (hw : w.rested) : (w.holdNone).rested := by
  simp only [Work.holdNone]; simp +contextual (maxDischargeDepth := 30) [hw]
@[simp] theorem Work.holdPostcrash_rested (w : Work) (hw : w.rested) : (w.holdPostcrash).rested := by
  simp only [Work.holdPostcrash]; (repeat' split) <;> simp +contextual (maxDischargeDepth := 30) [hw, rested_foldl]
@[simp] theorem Work.pneuFollows_rested (w : Work) (old new : PcuState) (hw : w.rested) :
    (w.pneuFollows old new).rested := by
  simp only [Work.pneuFollows]; (repeat' split) <;> simp +contextual (maxDischargeDepth := 30) [hw]
@[simp] theorem Work.massageCellsAbsent_rested (w : Work) (hw : w.rested) : (w.massageCellsAbsent).rested := by
  simp only [Work.massageCellsAbsent]; simp +contextual (maxDischargeDepth := 30) [hw, rested_foldl]
@[simp] theorem Work.massageCellsPresent_rested (w : Work) (hw : w.rested) : (w.massageCellsPresent).rested := by
  simp only [Work.massageCellsPresent]; simp +contextual (maxDischargeDepth := 30) [hw, rested_foldl]
@[simp] theorem Work.cancelPneu_rested (w : Work) (leak : Option Time) (hw : w.rested) :
    (w.cancelPneu leak).rested := by
  simp only [Work.cancelPneu]; simp +contextual (maxDischargeDepth := 30) [hw, rested_foldl]
@[simp] theorem Work.restartPneu_rested (w : Work) (hw : w.rested) : (w.restartPneu).rested := by
  simp only [Work.restartPneu]; simp +contextual (maxDischargeDepth := 30) [hw]
@[simp] theorem Work.sleepPneu_rested (w : Work) (hw : w.rested) : (w.sleepPneu).rested := by
  simp only [Work.sleepPneu]; simp +contextual (maxDischargeDepth := 30) [hw, rested_foldl]
@[simp] theorem Work.wakePneu_rested (w : Work) (hw : w.rested) : (w.wakePneu).rested := by
  simp only [Work.wakePneu]; simp +contextual (maxDischargeDepth := 30) [hw, rested_foldl]
@[simp] theorem Work.modMassage_rested (w : Work) (f : Massage → Massage) (hw : w.rested) : (w.modMassage f).rested := hw
@[simp] theorem Work.tellMassage_rested (w : Work) (reason : MassageReason) (hw : w.rested) :
    (w.tellMassage reason).rested := by
  simp only [Work.tellMassage]; simp +contextual (maxDischargeDepth := 30) [hw]
@[simp] theorem Work.changeProgram_rested (w : Work) (p : Nat) (hw : w.rested) : (w.changeProgram p).rested := by
  simp only [Work.changeProgram]; (repeat' split) <;> simp +contextual (maxDischargeDepth := 30) [hw]
@[simp] theorem Work.pendingTakesEffect_rested (w : Work) (hw : w.rested) : (w.pendingTakesEffect).rested := by
  simp only [Work.pendingTakesEffect]; (repeat' split) <;> simp +contextual (maxDischargeDepth := 30) [hw]
@[simp] theorem Work.startHold_rested (w : Work) (hw : w.rested) : (w.startHold).rested := hw
@[simp] theorem Work.startStep_rested (w : Work) (i : Nat) (hw : w.rested) : (w.startStep i).rested := by
  simp only [Work.startStep]; (repeat' split) <;> simp +contextual (maxDischargeDepth := 30) [hw, rested_foldl]
@[simp] theorem Work.nextStep_rested (w : Work) (hw : w.rested) : (w.nextStep).rested := by
  simp only [Work.nextStep]; (repeat' split) <;> simp +contextual (maxDischargeDepth := 30) [hw]
@[simp] theorem Work.startSession_rested (w : Work) (reason : MassageReason) (hw : w.rested) :
    (w.startSession reason).rested := by
  simp only [Work.startSession]; simp +contextual (maxDischargeDepth := 30) [hw]
@[simp] theorem Work.enterVenting_rested (w : Work) (reason : MassageReason) (hw : w.rested) :
    (w.enterVenting reason).rested := by
  simp only [Work.enterVenting]; simp +contextual (maxDischargeDepth := 30) [hw, rested_foldl]
@[simp] theorem Work.endSession_rested (w : Work) (reason : MassageReason) (hw : w.rested) :
    (w.endSession reason).rested := by
  simp only [Work.endSession]; (repeat' split) <;> simp +contextual (maxDischargeDepth := 30) [hw]
@[simp] theorem Work.ventingToOff_rested (w : Work) (reason : MassageReason) (hw : w.rested) :
    (w.ventingToOff reason).rested := by
  simp only [Work.ventingToOff]; simp +contextual (maxDischargeDepth := 30) [hw]
@[simp] theorem Work.stopMassage_rested (w : Work) (hw : w.rested) : (w.stopMassage).rested := by
  simp only [Work.stopMassage]; simp +contextual (maxDischargeDepth := 30) [hw]
@[simp] theorem Work.directOff_rested (w : Work) (reason : MassageReason) (hw : w.rested) :
    (w.directOff reason).rested := by
  simp only [Work.directOff]; (repeat' split) <;> simp +contextual (maxDischargeDepth := 30) [hw]
theorem Work.resumeWith_rested (w : Work) (f : Work → Work) (hf : ∀ w, w.rested → (f w).rested) (hw : w.rested) :
    (w.resumeWith f).rested := by
  simp only [Work.resumeWith]; split <;> simp +contextual (maxDischargeDepth := 30) [hf, hw]
@[simp] theorem Work.causeLeft_rested (w : Work) (f : Work → Work) (hf : ∀ w, w.rested → (f w).rested) (hw : w.rested) :
    (w.causeLeft f).rested := by
  simp only [Work.causeLeft]; split <;> simp +contextual (maxDischargeDepth := 30) [Work.resumeWith_rested, hf, hw]
@[simp] theorem Work.addCause_rested (w : Work) (f : Massage → Massage) (hw : w.rested) : (w.addCause f).rested := by
  simp only [Work.addCause]; (repeat' split) <;> simp +contextual (maxDischargeDepth := 30) [hw]
@[simp] theorem Work.massageShed_rested (w : Work) (hw : w.rested) : (w.massageShed).rested := by
  simp only [Work.massageShed]; (repeat' split) <;> simp +contextual (maxDischargeDepth := 30) [hw]
@[simp] theorem Work.massageProtect_rested (w : Work) (hw : w.rested) : (w.massageProtect).rested := by
  simp only [Work.massageProtect]; (repeat' split) <;> simp +contextual (maxDischargeDepth := 30) [hw]
@[simp] theorem Work.massageUnprotect_rested (w : Work) (hw : w.rested) : (w.massageUnprotect).rested := by
  simp only [Work.massageUnprotect]; (repeat' split) <;> simp +contextual (maxDischargeDepth := 30) [hw]
@[simp] theorem Work.resumeIfFree_rested (w : Work) (f : Work → Work) (hf : ∀ w, w.rested → (f w).rested) (hw : w.rested) :
    (w.resumeIfFree f).rested := by
  simp only [Work.resumeIfFree]; split <;> simp +contextual (maxDischargeDepth := 30) [Work.resumeWith_rested, hf, hw]
@[simp] theorem Work.massageUnprotectHeld_rested (w : Work) (hw : w.rested) : (w.massageUnprotectHeld).rested := by
  simp only [Work.massageUnprotectHeld]; (repeat' split) <;> simp +contextual (maxDischargeDepth := 30) [hw]
@[simp] theorem Work.massageRestore_rested (w : Work) (snap : Option Snapshot) (hw : w.rested) :
    (w.massageRestore snap).rested := by
  simp only [Work.massageRestore]; (repeat' split) <;> simp +contextual (maxDischargeDepth := 30) [hw]
@[simp] theorem Work.pumpCauseLeft_rested (w : Work) (hw : w.rested) : (w.pumpCauseLeft).rested := by
  simp only [Work.pumpCauseLeft]; (repeat' split) <;> simp +contextual (maxDischargeDepth := 30) [hw]
@[simp] theorem Work.fillAborted_rested (w : Work) (hw : w.rested) : (w.fillAborted).rested := by
  simp only [Work.fillAborted]; (repeat' split) <;> simp +contextual (maxDischargeDepth := 30) [hw]
@[simp] theorem Work.massageFillEnded_rested (w : Work) (e : AirEnd) (hw : w.rested) :
    (w.massageFillEnded e).rested := by
  simp only [Work.massageFillEnded]; (repeat' split) <;> simp +contextual (maxDischargeDepth := 30) [hw]
@[simp] theorem Work.massageFillSuspended_rested (w : Work) (hw : w.rested) : (w.massageFillSuspended).rested := by
  simp only [Work.massageFillSuspended]; (repeat' split) <;> simp +contextual (maxDischargeDepth := 30) [hw]
@[simp] theorem Work.massageFillResumed_rested (w : Work) (hw : w.rested) : (w.massageFillResumed).rested := by
  simp only [Work.massageFillResumed]; (repeat' split) <;> simp +contextual (maxDischargeDepth := 30) [hw]
@[simp] theorem Work.programEdge_rested (w : Work) (p : Nat) (hw : w.rested) : (w.programEdge p).rested := by
  simp only [Work.programEdge]; (repeat' split) <;> simp +contextual (maxDischargeDepth := 30) [hw]
@[simp] theorem Work.intensityEdge_rested (w : Work) (i : Nat) (hw : w.rested) : (w.intensityEdge i).rested := by
  simp only [Work.intensityEdge]; (repeat' split) <;> simp +contextual (maxDischargeDepth := 30) [hw]
@[simp] theorem Work.askStart_rested (w : Work) (reason : MassageReason) (hw : w.rested) :
    (w.askStart reason).rested := by
  simp only [Work.askStart]; (repeat' split) <;> simp +contextual (maxDischargeDepth := 30) [hw]
@[simp] theorem Work.renewSession_rested (w : Work) (hw : w.rested) : (w.renewSession).rested := hw
@[simp] theorem Work.switchEdge_rested (w : Work) (on : Bool) (hw : w.rested) : (w.switchEdge on).rested := by
  simp only [Work.switchEdge]; (repeat' split) <;> simp +contextual (maxDischargeDepth := 30) [hw]
@[simp] theorem Work.comfortMassage_rested (w : Work) (f : ComfortFields) (hw : w.rested) :
    (w.comfortMassage f).rested := by
  simp only [Work.comfortMassage]; (repeat' split) <;> simp +contextual (maxDischargeDepth := 30) [hw]
@[simp] theorem Work.massageRecall_rested (w : Work) (program intensity : Nat) (hw : w.rested) :
    (w.massageRecall program intensity).rested := by
  simp only [Work.massageRecall]; (repeat' split) <;> simp +contextual (maxDischargeDepth := 30) [hw]
@[simp] theorem Work.massageIgnition_rested (w : Work) (hw : w.rested) : (w.massageIgnition).rested := by
  simp only [Work.massageIgnition]; (repeat' split) <;> simp +contextual (maxDischargeDepth := 30) [hw]
@[simp] theorem Work.streamFrame_rested (w : Work) (q : StreamStep) (hw : w.rested) : (w.streamFrame q).rested := hw
@[simp] theorem Work.refreshZone_rested (w : Work) (z : Zone) (hw : w.rested) : (w.refreshZone z).rested := by
  simp only [Work.refreshZone]; (repeat' split) <;> simp +contextual (maxDischargeDepth := 30) [hw]
@[simp] theorem Work.refreshHeat_rested (w : Work) (hw : w.rested) : (w.refreshHeat).rested := by
  simp only [Work.refreshHeat]; simp +contextual (maxDischargeDepth := 30) [hw]
@[simp] theorem Work.trimApplied_rested (w : Work) (hw : w.rested) : (w.trimApplied).rested := by
  simp only [Work.trimApplied]; simp +contextual (maxDischargeDepth := 30) [hw]
@[simp] theorem Work.tellHeat_rested (w : Work) (reason : HeatReason) (hw : w.rested) :
    (w.tellHeat reason).rested := by
  simp only [Work.tellHeat]; simp +contextual (maxDischargeDepth := 30) [hw]
@[simp] theorem Work.judgeCutoff_rested (w : Work) (z : Zone) (hw : w.rested) : (w.judgeCutoff z).rested := by
  simp only [Work.judgeCutoff]; (repeat' split) <;> simp +contextual (maxDischargeDepth := 30) [hw]
@[simp] theorem Work.sensorOpen_rested (w : Work) (z : Zone) (hw : w.rested) : (w.sensorOpen z).rested := by
  simp only [Work.sensorOpen]; (repeat' split) <;> simp +contextual (maxDischargeDepth := 30) [hw]
@[simp] theorem Work.sensorShort_rested (w : Work) (z : Zone) (hw : w.rested) : (w.sensorShort z).rested := by
  simp only [Work.sensorShort]; (repeat' split) <;> simp +contextual (maxDischargeDepth := 30) [hw]
@[simp] theorem Work.sensorValid_rested (w : Work) (z : Zone) (t : Int) (hw : w.rested) :
    (w.sensorValid z t).rested := by
  simp only [Work.sensorValid]; (repeat' split) <;> simp +contextual (maxDischargeDepth := 30) [hw]
@[simp] theorem Work.heaterDriven_rested (w : Work) (on : Bool) (hw : w.rested) : (w.heaterDriven on).rested := by
  simp only [Work.heaterDriven]; (repeat' split) <;> simp +contextual (maxDischargeDepth := 30) [hw]
@[simp] theorem Work.measured_rested (w : Work) (z : Zone) (count : Nat) (hw : w.rested) : (w.measured z count).rested := by
  unfold Work.measured
  cases convertCount count <;> dsimp only <;> split <;> simp +contextual (maxDischargeDepth := 30) [hw]
@[simp] theorem Work.intervalStart_rested (w : Work) (hw : w.rested) : (w.intervalStart).rested := hw
@[simp] theorem Work.periodBegin_rested (w : Work) (hw : w.rested) : (w.periodBegin).rested := by
  simp only [Work.periodBegin]; simp +contextual (maxDischargeDepth := 30) [hw]
@[simp] theorem Work.levelRequest_rested (w : Work) (z : Zone) (l : Nat) (hw : w.rested) : (w.levelRequest z l).1.rested := by
  simp only [Work.levelRequest]; (repeat' split) <;> simp +contextual (maxDischargeDepth := 30) [hw]
theorem levels_rested (reqs : List (Zone × Nat)) (acc : Work × List LevelOutcome) (h : acc.1.rested) :
    (reqs.foldl (fun (acc : Work × List LevelOutcome) r =>
      ((acc.1.levelRequest r.1 r.2).1, acc.2 ++ [(acc.1.levelRequest r.1 r.2).2])) acc).1.rested := by
  induction reqs generalizing acc with
  | nil => exact h
  | cons r l ih => exact ih _ (Work.levelRequest_rested _ _ _ h)

@[simp] theorem Work.levelRequests_rested (w : Work) (r : HeatReason) (reqs : List (Zone × Nat)) (hw : w.rested) :
    (w.levelRequests r reqs).rested := by
  simp only [Work.levelRequests]; split <;> simp +contextual (maxDischargeDepth := 30) [levels_rested, hw]
@[simp] theorem Work.comfortHeat_rested (w : Work) (f : ComfortFields) (hw : w.rested) :
    (w.comfortHeat f).rested := by
  simp only [Work.comfortHeat]; (repeat' split) <;> simp +contextual (maxDischargeDepth := 30) [hw]
@[simp] theorem Work.heatRecall_rested (w : Work) (cushion back : Nat) (hw : w.rested) :
    (w.heatRecall cushion back).rested := by
  simp only [Work.heatRecall]; simp +contextual (maxDischargeDepth := 30) [hw]
@[simp] theorem Work.levelsOff_rested (w : Work) (hw : w.rested) : (w.levelsOff).rested := by
  simp only [Work.levelsOff]; simp +contextual (maxDischargeDepth := 30) [hw]
@[simp] theorem Work.heatIgnitionOff_rested (w : Work) (hw : w.rested) : (w.heatIgnitionOff).rested := by
  simp only [Work.heatIgnitionOff]; (repeat' split) <;> simp +contextual (maxDischargeDepth := 30) [hw]
@[simp] theorem Work.takeHeld_rested (w : Work) (z : Zone) (hw : w.rested) : (w.takeHeld z).rested := by
  simp only [Work.takeHeld]; (repeat' split) <;> simp +contextual (maxDischargeDepth := 30) [hw]
@[simp] theorem Work.heatIgnitionOn_rested (w : Work) (hw : w.rested) : (w.heatIgnitionOn).rested := by
  simp only [Work.heatIgnitionOn]; (repeat' split) <;> simp +contextual (maxDischargeDepth := 30) [hw]
@[simp] theorem Work.stepDownEnds_rested (w : Work) (z : Zone) (hw : w.rested) : (w.stepDownEnds z).rested := by
  simp only [Work.stepDownEnds]; simp +contextual (maxDischargeDepth := 30) [hw]
@[simp] theorem Work.dropHeld_rested (w : Work) (hw : w.rested) : (w.dropHeld).rested := by
  simp only [Work.dropHeld]; simp +contextual (maxDischargeDepth := 30) [hw]
@[simp] theorem Work.heatFollows_rested (w : Work) (new : PcuState) (hw : w.rested) : (w.heatFollows new).rested := by
  simp only [Work.heatFollows]; (repeat' split) <;> simp +contextual (maxDischargeDepth := 30) [hw]
@[simp] theorem Work.trimsChanged_rested (w : Work) (old : Seat) (hw : w.rested) : (w.trimsChanged old).rested := by
  simp only [Work.trimsChanged]; (repeat' split) <;> simp +contextual (maxDischargeDepth := 30) [hw]
@[simp] theorem Work.restartHeat_rested (w : Work) (hw : w.rested) : (w.restartHeat).rested := by
  simp only [Work.restartHeat]; (repeat' split) <;> simp +contextual (maxDischargeDepth := 30) [hw]
@[simp] theorem Work.sleepHeat_rested (w : Work) (hw : w.rested) : (w.sleepHeat).rested := hw
@[simp] theorem Work.wakeHeat_rested (w : Work) (hw : w.rested) : (w.wakeHeat).rested := by
  simp only [Work.wakeHeat]; simp +contextual (maxDischargeDepth := 30) [hw]
@[simp] theorem Work.modPcu_rested (w : Work) (f : Pcu → Pcu) (hw : w.rested) : (w.modPcu f).rested := hw
@[simp] theorem Work.tellPcu_rested (w : Work) (old : PcuState) (cause : PcuCause) (hw : w.rested) :
    (w.tellPcu old cause).rested := by
  simp only [Work.tellPcu]; simp +contextual (maxDischargeDepth := 30) [hw]
@[simp] theorem Work.allocFollows_rested (w : Work) (old new : PcuState) (hw : w.rested) :
    (w.allocFollows old new).rested := by
  simp only [Work.allocFollows]; (repeat' split) <;> simp +contextual (maxDischargeDepth := 30) [hw]
@[simp] theorem Work.motionFollows_rested (w : Work) (new : PcuState) (hw : w.rested) :
    (w.motionFollows new).rested := by
  simp only [Work.motionFollows]; (repeat' split) <;> simp +contextual (maxDischargeDepth := 30) [hw]
@[simp] theorem Work.massageFollows_rested (w : Work) (new : PcuState) (hw : w.rested) :
    (w.massageFollows new).rested := by
  simp only [Work.massageFollows]; (repeat' split) <;> simp +contextual (maxDischargeDepth := 30) [hw]
@[simp] theorem Work.enterPcu_rested (w : Work) (new : PcuState) (hw : w.rested) : (w.enterPcu new).rested := by
  simp only [Work.enterPcu]; simp +contextual (maxDischargeDepth := 30) [hw]
@[simp] theorem Work.enterProtecting_rested (w : Work) (hw : w.rested) : (w.enterProtecting).rested := by
  simp only [Work.enterProtecting]; (repeat' split) <;> simp +contextual (maxDischargeDepth := 30) [hw]
@[simp] theorem Work.enterHolding_rested (w : Work) (cause : PcuCause) (hw : w.rested) :
    (w.enterHolding cause).rested := by
  simp only [Work.enterHolding]; simp +contextual (maxDischargeDepth := 30) [hw]
@[simp] theorem Work.enterRestoring_rested (w : Work) (hw : w.rested) : (w.enterRestoring).rested := by
  simp only [Work.enterRestoring]; simp +contextual (maxDischargeDepth := 30) [hw]
@[simp] theorem Work.enterNormal_rested (w : Work) (cause : PcuCause) (hw : w.rested) :
    (w.enterNormal cause).rested := by
  simp only [Work.enterNormal]; simp +contextual (maxDischargeDepth := 30) [hw]
@[simp] theorem Work.enterPostcrash_rested (w : Work) (hw : w.rested) : (w.enterPostcrash).rested := by
  simp only [Work.enterPostcrash]; simp +contextual (maxDischargeDepth := 30) [hw]
@[simp] theorem Work.deliverLevel_rested (w : Work) (l : PrecrashLevel) (c : PcuCause) (hw : w.rested) :
    (w.deliverLevel l c).rested := by
  unfold Work.deliverLevel; split <;> simp +contextual (maxDischargeDepth := 30) [hw]
@[simp] theorem Work.holdEnds_rested (w : Work) (hw : w.rested) : (w.holdEnds).rested := by
  simp only [Work.holdEnds]; (repeat' split) <;> simp +contextual (maxDischargeDepth := 30) [hw]
@[simp] theorem Work.pcuSequenceDone_rested (w : Work) (k : SeqKind) (code : Code) (hw : w.rested) :
    (w.pcuSequenceDone k code).rested := by
  simp only [Work.pcuSequenceDone]; (repeat' split) <;> simp +contextual (maxDischargeDepth := 30) [hw]
@[simp] theorem Work.pcuRecallTaken_rested (w : Work) (hw : w.rested) : (w.pcuRecallTaken).rested := by
  simp only [Work.pcuRecallTaken]; (repeat' split) <;> simp +contextual (maxDischargeDepth := 30) [hw]
@[simp] theorem Work.pcuAxisPress_rested (w : Work) (a : Axis) (hw : w.rested) : (w.pcuAxisPress a).rested := by
  simp only [Work.pcuAxisPress]; (repeat' split) <;> simp +contextual (maxDischargeDepth := 30) [hw]
@[simp] theorem Work.postcrashRelease_rested (w : Work) (hw : w.rested) : (w.postcrashRelease).rested := by
  simp only [Work.postcrashRelease]; (repeat' split) <;> simp +contextual (maxDischargeDepth := 30) [hw]
@[simp] theorem Work.sleepPcu_rested (w : Work) (hw : w.rested) : (w.sleepPcu).rested := by
  simp only [Work.sleepPcu]; simp +contextual (maxDischargeDepth := 30) [hw]
@[simp] theorem Work.handle_rested (w : Work) (n : Notice) (hw : w.rested) : (w.handle n).rested := by
  unfold Work.handle; split <;> simp +contextual (maxDischargeDepth := 30) [hw]
@[simp] theorem Work.drain_rested (n : Nat) (w : Work) (hw : w.rested) : (w.drain n).rested := by
  induction n generalizing w with
  | zero => exact hw
  | succ n ih =>
    simp only [Work.drain]; split
    · exact hw
    · exact ih _ (Work.handle_rested _ _ hw)
@[simp] theorem Work.mapAxes_rested (w : Work) (f : AxisRec → AxisRec) (hw : w.rested) : (w.mapAxes f).rested := hw
@[simp] theorem Work.supplyFaults_rested (w : Work) (b : Band) (hw : w.rested) : (w.supplyFaults b).rested := by
  simp only [Work.supplyFaults]; (repeat' split) <;> simp +contextual (maxDischargeDepth := 30) [hw]

end Sys2Proof.Machine
end

