-- ==== Sys2Proof/Laws/Finish.lean ====
section
/-!
SUPPORT. How a step ends: what `finish` answers, and what powered, unpowered and sleeping parts do with an event.
-/
namespace Sys2Proof.Machine

open Sys2Proof Host

theorem Work.drain_nil (w : Work) (n : Nat) (h : w.inbox = []) : w.drain n = w := by
  cases n with
  | zero => rfl
  | succ n => simp only [Work.drain, h]

/-- An exchange of notices over `n + 1` turns takes the first notice and goes on. -/
theorem Work.drain_cons (w : Work) (n : Nat) (x : Notice) (rest : List Notice) (h : w.inbox = x :: rest) :
    w.drain (n + 1) = Work.drain n (Work.handle { w with inbox := rest } x) := by
  simp only [Work.drain, h]

@[simp] theorem finish_pending (w : Work) (l : Link) (p : List Instr) : (finish w l p).pending = p := rfl

/-- Where no SLEEP is pending the step ends with the trim, the queueing and the load. -/
theorem finish_rested (w : Work) (l : Link) (p : List Instr) (h : w.rested) :
    finish w l p =
      ⟨(w.drain Config.noticeBudget).trimApplied.toSeat,
       (l.pushAll (w.drain Config.noticeBudget).trimApplied.out).load (w.drain Config.noticeBudget).trimApplied.toSeat, p⟩ := by
  have h' : (w.drain Config.noticeBudget).trimApplied.rested :=
    Work.trimApplied_rested _ (Work.drain_rested _ _ h)
  have h'' : (w.drain Config.noticeBudget).trimApplied.power.sleepPending = false := h'
  simp [finish, settleLink, h'']

@[simp] theorem Work.trimApplied_out (w : Work) : w.trimApplied.out = w.out := by
  simp [Work.trimApplied]

@[simp] theorem Work.trimApplied_inbox (w : Work) : w.trimApplied.inbox = w.inbox := by
  simp [Work.trimApplied]

/-- The trim reads and writes the blocks alone. -/
theorem Work.trimApplied_toSeat (w : Work) : w.trimApplied.toSeat = w.toSeat.trimmed := rfl

/-- Where nothing was posted and no SLEEP is pending, the step ends with the blocks as they came to stand. -/
theorem finish_quiet (w : Work) (l : Link) (p : List Instr) (hi : w.inbox = []) (h : w.rested) :
    finish w l p = settled w.toSeat l w.out p := by
  rw [finish_rested w l p h, Work.drain_nil w _ hi, Work.trimApplied_out, Work.trimApplied_toSeat]
  rfl

/-- Where no SLEEP is pending, the exchange of notices leaves the context as it is. -/
theorem finish_context (w : Work) (l : Link) (p : List Instr) (h : w.rested) :
    (finish w l p).seat.context = w.context := by
  rw [finish_rested w l p h]; simp

theorem State.actLink_powered (g : Link → Link) (f : Work → Work) (s : State) (h : s.Powered) :
    s.actLink g f = finish (f (Work.start s.seat)) (g s.link) s.pending := by
  have h' : s.seat.band.isNone = false := by rw [State.Powered] at h; cases hb : s.seat.band <;> simp_all
  simp [State.actLink, h']

theorem State.actLink_unpowered (g : Link → Link) (f : Work → Work) (s : State) (h : s.seat.band = none) :
    s.actLink g f = s := by simp [State.actLink, h]

theorem State.act_powered (f : Work → Work) (s : State) (h : s.Powered) :
    s.act f = finish (f (Work.start s.seat)) s.link s.pending := State.actLink_powered id f s h

theorem State.act_unpowered (f : Work → Work) (s : State) (h : s.seat.band = none) : s.act f = s :=
  State.actLink_unpowered id f s h

theorem State.wake_awake (s : State) (h : s.seat.power.mode ≠ .sleep) : s.wake = s := by
  simp [State.wake, h]

@[simp] theorem State.wake_pending (s : State) : s.wake.pending = s.pending := by
  unfold State.wake; split <;> rfl

theorem State.receive_awake (f : Work → Work) (s : State) (h : s.Awake) :
    s.receive f = finish (f (Work.start s.seat)) s.link s.pending := by
  have h' : s.seat.band.isNone = false := by have := h.powered; cases hb : s.seat.band <;> simp_all
  rw [State.receive, if_neg (by simp [h']), State.wake_awake s h.awake, State.act_powered f s h.powered]

theorem State.receive_unpowered (f : Work → Work) (s : State) (h : s.seat.band = none) : s.receive f = s := by
  simp [State.receive, h]

@[simp] theorem State.actLink_pending (g : Link → Link) (f : Work → Work) (s : State) : (s.actLink g f).pending = s.pending := by
  unfold State.actLink; split <;> rfl

@[simp] theorem State.act_pending (f : Work → Work) (s : State) : (s.act f).pending = s.pending := State.actLink_pending id f s

@[simp] theorem State.receive_pending (f : Work → Work) (s : State) : (s.receive f).pending = s.pending := by
  unfold State.receive; split <;> simp

/-! ### Expiries -/

@[simp] theorem Work.expiry_none (w : Work) (f : Work → Work) : w.expiry none f = w := rfl
@[simp] theorem Work.expiry_some (w : Work) (t : Time) (f : Work → Work) : w.expiry (some t) f = f (w.reach t) := rfl

end Sys2Proof.Machine
end

