-- ==== Sys2Proof/Laws/Link.lean ====
section
/-!
SUPPORT. The transmitter: every operation of it keeps its bounds, and what each leaves of the queue and the tally.
-/
namespace Sys2Proof.Machine

open Sys2Proof

theorem Link.push_bounded (l : Link) (i : Item) (h : l.Bounded) : (l.push i).Bounded := by
  unfold Link.push
  split
  · next hq =>
    refine ⟨?_, h.tally, h.on, h.off⟩
    have : l.queue.length < 8 := hq
    simp only [List.length_append, List.length_singleton]; omega
  · exact ⟨h.queue, h.tally, h.on, h.off⟩

theorem Link.pushAll_bounded (l : Link) (items : List Item) (h : l.Bounded) : (l.pushAll items).Bounded := by
  unfold Link.pushAll
  induction items generalizing l with
  | nil => exact h
  | cons i rest ih => exact ih _ (l.push_bounded i h)

theorem Link.load_bounded (l : Link) (s : Seat) (h : l.Bounded) : (l.load s).Bounded := by
  unfold Link.load
  split
  · next hm =>
    split
    · exact h
    · refine ⟨h.queue, h.tally, h.on, fun ho => ?_⟩
      have hn : l.offUntil = none := by simp [mayLoad] at hm; exact hm.1.2
      simp [hn] at ho
  · exact h

theorem Link.advanceHead_bounded (l : Link) (h : l.Bounded) : l.advanceHead.Bounded := by
  unfold Link.advanceHead
  split
  · exact h
  · next i rest hq =>
    split
    · exact ⟨h.queue, h.tally, h.on, h.off⟩
    · refine ⟨?_, h.tally, h.on, h.off⟩
      have := h.queue
      rw [hq, List.length_cons] at this
      exact Nat.le_of_succ_le this

theorem Link.sentOk_bounded (l : Link) (f : Loaded) (h : l.Bounded) : (l.sentOk f).Bounded := by
  have h' : Link.Bounded { l with loaded := none, tally := l.tally - 1 } :=
    ⟨h.queue, Nat.le_trans (Nat.sub_le _ _) h.tally, fun ho => Nat.lt_of_le_of_lt (Nat.sub_le _ _) (h.on ho), fun _ => rfl⟩
  unfold Link.sentOk
  cases f.source
  · exact Link.advanceHead_bounded _ h'
  · exact ⟨h'.queue, h'.tally, h'.on, h'.off⟩
  · exact h'
  · exact h'

theorem Link.sentLost_bounded (l : Link) (h : l.Bounded) : l.sentLost.Bounded := ⟨h.queue, h.tally, h.on, fun _ => rfl⟩

/-- A frame that fails was loaded, so the link was on. -/
theorem Link.sentFailed_bounded (l : Link) (now : Time) (h : l.Bounded) (hl : l.loaded ≠ none) :
    (l.sentFailed now).Bounded := by
  have hn : l.offUntil = none := by
    cases ho : l.offUntil with
    | none => rfl
    | some t => exact absurd (h.off (by simp [ho])) hl
  have ht := h.on hn
  refine ⟨h.queue, ?_, ?_, fun _ => rfl⟩
  · simp only [Link.sentFailed]; omega
  · intro ho
    simp only [Link.sentFailed, hn] at ho ⊢
    have hc : Config.linkOffTally = 256 := rfl
    split at ho
    · simp_all
    · simp_all; omega

theorem Link.turnOn_bounded (l : Link) (h : l.Bounded) : l.turnOn.Bounded :=
  ⟨h.queue, Nat.zero_le _, fun _ => by simp [Link.turnOn], fun ho => by simp [Link.turnOn] at ho⟩

theorem Link.statusTick_bounded (l : Link) (now : Time) (h : l.Bounded) : (l.statusTick now).Bounded :=
  ⟨h.queue, h.tally, h.on, h.off⟩

theorem Link.sleep_bounded (l : Link) (h : l.Bounded) : l.sleep.Bounded := ⟨Nat.zero_le _, h.tally, h.on, fun _ => rfl⟩

theorem Link.wake_bounded (l : Link) (now : Time) : (l.wake now).Bounded :=
  ⟨Nat.zero_le _, Nat.zero_le _, fun _ => by simp [Link.wake], fun ho => by simp [Link.wake] at ho⟩

theorem Link.restart_bounded (l : Link) (h : l.Bounded) : l.restart.Bounded :=
  ⟨h.queue, h.tally, h.on, fun ho => by have := h.off ho; simp [Link.restart, this]⟩

theorem Link.reset_bounded (now : Time) : (Link.reset now).Bounded :=
  ⟨Nat.zero_le _, Nat.zero_le _, fun _ => by simp [Link.reset], fun ho => by simp [Link.reset] at ho⟩

/-! ### Loading -/

/-- Loading changes nothing but the loaded frame and the mark of items lost since. -/
theorem Link.load_cases (l : Link) (s : Seat) :
    l.load s = l ∨ ∃ f, mayLoad s l = true ∧ pendingFrame s l = some f ∧
      l.load s = { l with loaded := some f, lostSinceLoad := false } := by
  unfold Link.load
  split
  · next hm =>
    split
    · exact .inl rfl
    · next f hf => exact .inr ⟨f, hm, hf, rfl⟩
  · exact .inl rfl

@[simp] theorem Link.load_queue (l : Link) (s : Seat) : (l.load s).queue = l.queue := by
  obtain h | ⟨f, -, -, h⟩ := l.load_cases s <;> rw [h]

@[simp] theorem Link.load_tally (l : Link) (s : Seat) : (l.load s).tally = l.tally := by
  obtain h | ⟨f, -, -, h⟩ := l.load_cases s <;> rw [h]

@[simp] theorem Link.load_statusDue (l : Link) (s : Seat) : (l.load s).statusDue = l.statusDue := by
  obtain h | ⟨f, -, -, h⟩ := l.load_cases s <;> rw [h]

@[simp] theorem Link.pushAll_nil (l : Link) : l.pushAll [] = l := rfl

@[simp] theorem Link.pushAll_cons (l : Link) (i : Item) (rest : List Item) :
    l.pushAll (i :: rest) = (l.push i).pushAll rest := rfl

/-- An item handed on while the queue has room joins its tail (R182). -/
theorem Link.push_room (l : Link) (i : Item) (h : l.queue.length < 8) : l.push i = { l with queue := l.queue ++ [i] } :=
  if_pos h

/-- An item handed on while the queue is full is discarded (R182). -/
theorem Link.push_full (l : Link) (i : Item) (h : ¬l.queue.length < 8) :
    l.push i = { l with lost := true, lostSinceLoad := true } := if_neg h

end Sys2Proof.Machine
end

