-- ==== Sys2Proof/Laws/PerInstr.lean ====
section
/-!
SUPPORT. What holds of every command as syntax, one lemma per constructor. The family `BadLength`: a command whose data has
not its source's length is a frame the link controller takes, and the source is one of the ten of 9.1.
-/
namespace Sys2Proof.Laws.BadLength

-- One elaboration thread at a time keeps the memory of a build small.
set_option Elab.async false

open Sys2Proof

def Statement (i : Instr) : Prop := ∀ node k, i.badLength node = some k → i.isFrame node = true ∧ k ≤ 9

theorem supplyComparatorEvent (mv : Nat) : Statement (.supplyComparatorEvent mv) := fun _ _ h => nomatch h

theorem supplyResetExit (node : Station) (side : Side) (mv : Nat) : Statement (.supplyResetExit node side mv) := fun _ _ h => nomatch h

theorem energyAllowance (data : List Byte) : Statement (.energyAllowance data) := by
  intro node k h
  simp only [Instr.badLength] at h
  split at h <;> cases h
  exact ⟨rfl, by decide⟩

theorem allowanceStale : Statement .allowanceStale := fun _ _ h => nomatch h

theorem peerStatus (n : Station) (data : List Byte) : Statement (.peerStatus n data) := by
  intro node k h
  simp only [Instr.badLength] at h
  split at h
  · cases h
  · next hn => cases h; exact ⟨by simpa [Instr.isFrame] using fun e => hn (Or.inl e), by decide⟩

theorem peerStatusStale (n : Station) : Statement (.peerStatusStale n) := fun _ _ h => nomatch h

theorem startIntervalExpiry (a : Axis) : Statement (.startIntervalExpiry a) := fun _ _ h => nomatch h

theorem coastEnd (a : Axis) : Statement (.coastEnd a) := fun _ _ h => nomatch h

theorem brakeEnd (a : Axis) : Statement (.brakeEnd a) := fun _ _ h => nomatch h

theorem hallEdge (ch : Channel) (dt : Nat) : Statement (.hallEdge ch dt) := fun _ _ h => nomatch h

theorem stallTimerExpiry (a : Axis) : Statement (.stallTimerExpiry a) := fun _ _ h => nomatch h

theorem obstructionDetected (a : Axis) : Statement (.obstructionDetected a) := fun _ _ h => nomatch h

theorem timedDriveExpiry (a : Axis) : Statement (.timedDriveExpiry a) := fun _ _ h => nomatch h

theorem startTimeout (a : Axis) : Statement (.startTimeout a) := fun _ _ h => nomatch h

theorem moveAxis (axis : Byte) (target : BitVec 16) (tag : Byte) : Statement (.moveAxis axis target tag) := fun _ _ h => nomatch h

theorem homeAxis (selector : Byte) (tag : Byte) : Statement (.homeAxis selector tag) := fun _ _ h => nomatch h

theorem stopAll : Statement .stopAll := fun _ _ h => nomatch h

theorem queryAxis (axis : Byte) : Statement (.queryAxis axis) := fun _ _ h => nomatch h

theorem queryBudget (selector : Byte) : Statement (.queryBudget selector) := fun _ _ h => nomatch h

theorem contactChange (p : SwitchPos) (closed : Bool) : Statement (.contactChange p closed) := fun _ _ h => nomatch h

theorem debounceExpiry (p : SwitchPos) : Statement (.debounceExpiry p) := fun _ _ h => nomatch h

theorem switchRepeatExpiry (p : SwitchPos) : Statement (.switchRepeatExpiry p) := fun _ _ h => nomatch h

theorem switchStuck (p : SwitchPos) : Statement (.switchStuck p) := fun _ _ h => nomatch h

theorem memoryKeys (data : List Byte) : Statement (.memoryKeys data) := by
  intro node k h
  simp only [Instr.badLength] at h
  split at h <;> cases h
  exact ⟨rfl, by decide⟩

theorem storeWindowExpiry : Statement .storeWindowExpiry := fun _ _ h => nomatch h

theorem profileWriteEnd : Statement .profileWriteEnd := fun _ _ h => nomatch h

theorem keyEventLock (key : Byte) : Statement (.keyEventLock key) := fun _ _ h => nomatch h

theorem keyEventUnlock (key : Byte) : Statement (.keyEventUnlock key) := fun _ _ h => nomatch h

theorem keyRecallWindowExpiry : Statement .keyRecallWindowExpiry := fun _ _ h => nomatch h

theorem vehicleState (data : List Byte) : Statement (.vehicleState data) := by
  intro node k h
  simp only [Instr.badLength] at h
  split at h <;> cases h
  exact ⟨rfl, by decide⟩

theorem peerRecordStale (r : PeerRecord) : Statement (.peerRecordStale r) := fun _ _ h => nomatch h

theorem profileExport (slot : Byte) : Statement (.profileExport slot) := fun _ _ h => nomatch h

theorem profileImport (slot : Byte) : Statement (.profileImport slot) := fun _ _ h => nomatch h

theorem profileData (data : List Byte) : Statement (.profileData data) := by
  intro node k h
  simp only [Instr.badLength] at h
  split at h <;> cases h
  exact ⟨rfl, by decide⟩

theorem importTimeout : Statement .importTimeout := fun _ _ h => nomatch h

theorem profileErase (slot : Byte) : Statement (.profileErase slot) := fun _ _ h => nomatch h

theorem manifoldReadingChange (reading : Nat) : Statement (.manifoldReadingChange reading) := fun _ _ h => nomatch h

theorem fillLimitExpiry : Statement .fillLimitExpiry := fun _ _ h => nomatch h

theorem fillUnconfirmedTimeout : Statement .fillUnconfirmedTimeout := fun _ _ h => nomatch h

theorem measureSettleExpiry (reading : Nat) : Statement (.measureSettleExpiry reading) := fun _ _ h => nomatch h

theorem ventEnd (c : CellIx) : Statement (.ventEnd c) := fun _ _ h => nomatch h

theorem leakTimerExpiry (c : CellIx) : Statement (.leakTimerExpiry c) := fun _ _ h => nomatch h

theorem queryCells (selector : Byte) : Statement (.queryCells selector) := fun _ _ h => nomatch h

theorem comfortRequest (data : List Byte) : Statement (.comfortRequest data) := by
  intro node k h
  simp only [Instr.badLength] at h
  split at h <;> cases h
  exact ⟨rfl, by decide⟩

theorem massageStream (data : List Byte) : Statement (.massageStream data) := by
  intro node k h
  simp only [Instr.badLength] at h
  split at h <;> cases h
  exact ⟨rfl, by decide⟩

theorem stepHoldExpiry : Statement .stepHoldExpiry := fun _ _ h => nomatch h

theorem sessionTimerExpiry : Statement .sessionTimerExpiry := fun _ _ h => nomatch h

theorem ventingTimerExpiry : Statement .ventingTimerExpiry := fun _ _ h => nomatch h

theorem streamWatchExpiry : Statement .streamWatchExpiry := fun _ _ h => nomatch h

theorem heaterIntervalStart : Statement .heaterIntervalStart := fun _ _ h => nomatch h

theorem heaterMeasurementDone (z : Zone) (count : Nat) : Statement (.heaterMeasurementDone z count) := fun _ _ h => nomatch h

theorem heaterPwmPeriod : Statement .heaterPwmPeriod := fun _ _ h => nomatch h

theorem stepDownExpiry (z : Zone) : Statement (.stepDownExpiry z) := fun _ _ h => nomatch h

theorem precrash (data : List Byte) : Statement (.precrash data) := by
  intro node k h
  simp only [Instr.badLength] at h
  split at h <;> cases h
  exact ⟨rfl, by decide⟩

theorem precrashStale : Statement .precrashStale := fun _ _ h => nomatch h

theorem pcuHoldExpiry : Statement .pcuHoldExpiry := fun _ _ h => nomatch h

theorem postcrashRelease : Statement .postcrashRelease := fun _ _ h => nomatch h

theorem txSent : Statement .txSent := fun _ _ h => nomatch h

theorem txArbitrationLost : Statement .txArbitrationLost := fun _ _ h => nomatch h

theorem txFailed : Statement .txFailed := fun _ _ h => nomatch h

theorem linkOffExpiry : Statement .linkOffExpiry := fun _ _ h => nomatch h

theorem statusTimerExpiry : Statement .statusTimerExpiry := fun _ _ h => nomatch h

theorem unknownServiceRequest (data : List Byte) : Statement (.unknownServiceRequest data) := by
  intro node k h
  simp only [Instr.badLength] at h
  split at h <;> cases h
  exact ⟨rfl, by decide⟩

theorem clearFaults : Statement .clearFaults := fun _ _ h => nomatch h

theorem queryFaults (selector : Byte) : Statement (.queryFaults selector) := fun _ _ h => nomatch h

theorem runOnTimerExpiry : Statement .runOnTimerExpiry := fun _ _ h => nomatch h

theorem configWindowExpiry : Statement .configWindowExpiry := fun _ _ h => nomatch h

theorem configure (variant fuse fallback concurrency runOn cushionTrim backTrim : Byte) : Statement (.configure variant fuse fallback concurrency runOn cushionTrim backTrim) := fun _ _ h => nomatch h

theorem restart : Statement .restart := fun _ _ h => nomatch h

theorem keyEvent (data : List Byte) : Statement (.keyEvent data) := by
  intro node k h
  simp only [Instr.badLength] at h
  split at h <;> cases h
  exact ⟨rfl, by decide⟩

end Sys2Proof.Laws.BadLength
end

