-- ==== Sys2Proof/Tests/Slice0.lean ====
section
/-!
SUPPORT. Tests: the checks of WellFormed refuse ill-formed commands; single steps against the manual's worked cases and
tables; and, for each statement with hypotheses, states that meet them (`witness_…`).
-/
namespace Sys2Proof.Tests

-- One elaboration thread at a time keeps the memory of a build small.
set_option Elab.async false

open Sys2Proof Sys2Proof.Machine Host

/-! ### Small states -/

/-- An axis at rest at `p`, referenced, its last drive toward HIGH. -/
def rest (p : Int) : AxisRec :=
  { AxisRec.reset 0 with
    position := p, referenced := true, drive := .idle, lastDir := .high, phaseEnd := none, resetDeadband := false }

/-- A part with every axis IDLE, every cell VENTED, ignition RUN by a fresh VEHICLE_STATE at speed 0, and an allowance of
260 bu fresh; `f` changes the blocks. -/
def calm (f : Work → Work := id) : State :=
  let w := Work.start State.reset.seat
  let w := { w with
    peers := { w.peers with
      energy := ⟨.value 260, false, some 2000000⟩, vehicle := ⟨⟨.run, some 0, false, false⟩, some 500000⟩ }
    motion := { w.motion with axes := Vector.replicate 7 (rest 100) }
    pneu := { w.pneu with cells := Vector.replicate 14 ⟨.vented, some 0, 0, none, false, none, none⟩ }
    power := { w.power with mode := .active, runOn := none } }
  ⟨(f w).toSeat, { Link.reset 0 with statusDue := false, statusAt := none }, []⟩

/-- The state that a command leaves. -/
def after (s : State) (c : Instr) : State := match exec c s with | .next t => t | _ => s

/-- The items that wait in the event queue. -/
def items (s : State) : List (Head × List Byte) := s.link.queue.map fun i => (i.head, i.content)

/-- One axis of the calm part. -/
def withAxis (a : Axis) (r : AxisRec) (f : Work → Work := id) : State := calm fun w => f (w.setAxis a r)

/-! ### The checks of WellFormed refuse -/

theorem test_wf_frame : (Instr.precrash (List.replicate 9 0)).wf = false := by decide
theorem test_wf_reading : (Instr.manifoldReadingChange 61).wf = false := by decide
theorem test_wf_count : (Instr.heaterMeasurementDone .back 4096).wf = false := by decide
theorem test_wf_voltage : (Instr.supplyResetExit 0 .left 5999).wf = false := by decide
theorem test_wf_repeat : (Instr.switchRepeatExpiry 13).wf = false := by decide
theorem test_wf_leak : (Instr.leakTimerExpiry 7).wf = false := by decide
theorem test_wf_key : (Instr.keyEventUnlock 4).wf = false := by decide

/-- The table gives no row any bits, so no word spells a command. -/
theorem test_no_word_spells : decodeTableWord 8 3 = none ∧ State.reset.withFetchWord 8 3 = State.reset := by decide +kernel

/-! ### Records and frames -/

/-- R79: the check value of the digits 1 to 9. -/
theorem test_check_value :
    crc16 [0x31, 0x32, 0x33, 0x34, 0x35, 0x36, 0x37, 0x38, 0x39] = 0x29B1 := by decide +kernel

/-- 11.5: the two segments of one AXIS_DONE. -/
theorem test_axis_done_segments :
    let i := axisDoneItem .height .switch .jog 0 .done (rest 519) false
    i.segment 0 = [0x00, 0x02, 0x01, 0x00, 0x00, 0x00, 0x00, 0x02] ∧
      i.segment 1 = [0x00, 0x12, 0x07, 0x01, 0x00, 0x00, 0x00, 0x00] := by decide +kernel

/-! ### Chapter 1 -/

/-- 1.11: the starting state under L = 174. -/
def shared : Allocating :=
  { grants := [⟨.pump, .p1, 40, .start⟩], queue := [], cushionClaim := 52, cushionGrant := 52, backClaim := 45,
    backGrant := 45, notes := [] }

def envOf (l : Nat) : AllocEnv := ⟨l, false, some .normal, 0⟩

/-- Back, cushion and indivisible grants. -/
def grants (a : Allocating) : Nat × Nat × List Nat := (a.backGrant, a.cushionGrant, a.grants.map (·.amount))

def longStarts : Allocating := shared.claim (.axis .long) .p3 100 (envOf 174)
def longSteps : Allocating := longStarts.stepDown .long (envOf 174)
def heightStarts : Allocating := longSteps.claim (.axis .height) .p3 100 (envOf 174)
def heightSteps : Allocating := heightStarts.stepDown .height (envOf 174)

/-- 1.11: the tables of LONG and HEIGHT. -/
theorem test_allocation :
    grants longStarts = (0, 34, [40, 100]) ∧ grants longSteps = (32, 52, [40, 50]) ∧
      grants heightStarts = (0, 0, [50, 100]) ∧ heightStarts.queue.map (·.amount) = [40] ∧
      grants heightSteps = (0, 34, [50, 50, 40]) := by decide +kernel

/-- 1.12: the ceiling falls to L = 134 and rises to 244. -/
theorem test_ceiling_fall :
    grants (heightSteps.recompute .budget (envOf 134)) = (0, 0, [50, 50]) ∧
      grants ((heightSteps.recompute .budget (envOf 134)).recompute .budget (envOf 244)) = (45, 52, [50, 50, 40]) := by
  decide +kernel

/-- 1.11: G = 260 and 80 in use by the passenger station give L = 174. -/
theorem test_load_ceiling : ((after calm (.peerStatus 1 [0, 80, 0, 0, 0, 0, 0, 0])).seat).loadCeiling = 174 := by
  decide +kernel

/-- R1: NORMAL goes LOW at 10.4 V, and LOW stays LOW at 10.5 V. -/
theorem test_band_hysteresis :
    (after calm (.supplyComparatorEvent 10400)).seat.band = some .low ∧
      (after (after calm (.supplyComparatorEvent 10400)) (.supplyComparatorEvent 10500)).seat.band = some .low := by
  decide +kernel

/-- 1.4, R202: the class of QUERY_BUDGET is its place in the table, P5 first. -/
theorem test_class_code : [Cls.p5, .p4, .p3, .p2, .p1, .p0].map Cls.code = [0, 1, 2, 3, 4, 5] := by decide

/-- R104: a pump claim taken over by a FILL of its own class waits on behind the P3 claim ahead of it. -/
theorem test_same_class_waits :
    let a := { shared with grants := [], queue := [⟨.axis .long, .p3, 100, 0⟩, ⟨.pump, .p1, 40, 0⟩] }
    a.reclass .p1 (envOf 99) = a := by decide +kernel

/-- R197: in supply reset every valve is closed. -/
theorem test_supply_reset_closed :
    let s := (after calm (.supplyComparatorEvent 5000)).seat
    ∀ c : CellIx, (s.cell c).state = .holding ∧ (s.cell c).ventEnd = none := by decide +kernel

/-! ### Chapters 2 and 3 -/

/-- A drive order of 2.12. -/
def order (stop : Option Int) (form : Form := .normal) : Order := ⟨.high, form, stop, true⟩

/-- A SERVICE operation that has driven. -/
def operation (k : OpKind) (st : OpState) (target : Option Int := some 1600) : Op :=
  ⟨.service, k, .high, target, .normal, 9, false, st, 1000, 0, none, false, false, true, true⟩

/-- LONG of 2.12 at `p`, driven toward 1600 since `t`. -/
def driven (p : Int) (t : Time := 0) : AxisRec :=
  { rest p with
    drive := .running, order := some (order (some 1600)), op := some (operation .target .moving)
    startedAt := t, stallAt := some 120000, lastEdge := some 0, opEdges := 1 }

/-- 2.12: duty 85 at 150 ms, 100 at 200 ms, 60 from a remaining distance of 40. -/
theorem test_duty :
    (driven 1011).duty 150000 = 85 ∧ (driven 1017).duty 200000 = 100 ∧ (driven 1559).duty 5000000 = 100 ∧
      (driven 1560).duty 5000000 = 60 := by decide +kernel

/-- 2.12: the drive is removed at 1596, 60 ms before its coast ends. -/
theorem test_arrives :
    let s := after (withAxis .long (driven 1595)) (.hallEdge 0 8000);
    (s.seat.axis .long).position = 1596 ∧ (s.seat.axis .long).drive = .coasting ∧
      (s.seat.axis .long).phaseEnd = some 68000 := by decide +kernel

/-- 2.12: settled at 1598 the operation ends DONE; settled at 1596 it orders a corrective drive. -/
theorem test_settles :
    let settled := fun p => withAxis .long
      { rest p with drive := .coasting, phaseEnd := some 60000, op := some (operation .target .settling) }
    items (after (settled 1598) (.coastEnd .long)) = [(.event .axisDone, [0, 6, 1, 9, 0, 0x06, 0x3E, 1, 0])] ∧
      ((after (settled 1596) (.coastEnd .long)).seat.axis .long).order = some ⟨.high, .corrective, some 1600, false⟩ := by
  decide +kernel

/-- 2.14: THIGH at tally 14 and plausible-edge count 60, under the edges of the table. -/
theorem test_hall_integrity :
    let thigh := withAxis .thigh { rest 50 with tally := 14, plausible := 60, lastEdge := some 0 }
    let edges := fun (l : List Nat) => (l.foldl (fun s d => after s (.hallEdge 6 d)) thigh).seat.axis .thigh
    ((edges [4000, 900]).tally, (edges [4000, 900]).plausible) = (15, 61) ∧
      ((edges [4000, 900, 4000, 4000, 4000]).tally, (edges [4000, 900, 4000, 4000, 4000]).plausible) = (14, 0) ∧
      (edges [4000, 900, 4000, 4000, 4000, 1200, 700]).referenced = false := by decide +kernel

/-- 2.14: the threshold of 75000 µs over eight intervals is passed at 23438 µs, not at 23437. -/
theorem test_obstruction_threshold :
    let at_ := fun n => (after (calm fun w => { w.setAxis .recline { driven 500 with
      intervals := [9100, 8900, 9000, 9200, 9000, 8800, 9000, 12000], lastEdge := some 1000000
      op := some { operation .target .moving with source := .restore } } with now := n }) (.obstructionDetected .recline)).seat
    (at_ 1000000).now = 1023438 ∧ ((at_ 1000000).axis .recline).drive = .coasting := by decide +kernel

/-- 3.14: HEIGHT stalls 520 edges below its start; its return target is 520. -/
theorem test_homing :
    let home : Op := ⟨.home, .home, .low, none, .normal, 9, false, .moving, 0, 0, none, false, false, true, true⟩
    let s := after (withAxis .height { rest (-520) with
      referenced := false, lastDir := .low, drive := .running, order := some ⟨.low, .normal, none, false⟩, op := some home
      opEdges := 520, stallAt := some 120000, lastEdge := some 0 }) (.stallTimerExpiry .height);
    (s.seat.axis .height).position = 0 ∧ (s.seat.axis .height).referenced = true ∧
      ((after s (.coastEnd .height)).seat.axis .height).order.map (·.stop) = some (some 520) ∧
      ((after s (.coastEnd .height)).seat.axis .height).drive = .braking := by decide +kernel

/-- 3.13 and 2.13: a press of TILT UP is a SWITCH JOG; its release ends it DONE and the axis coasts. -/
theorem test_switch_jog :
    let pressed := after (after (withAxis .tilt (rest 50)) (.contactChange 5 true)) (.debounceExpiry 5)
    let released := after (after pressed (.contactChange 5 false)) (.debounceExpiry 5)
    ((pressed.seat.axis .tilt).drive, (pressed.seat.axis .tilt).op.map (·.kind)) = (.starting, some .jog) ∧
      (released.seat.axis .tilt).drive = .coasting ∧ (released.seat.axis .tilt).op = none ∧
      items released = [(.event .axisDone, [2, 0, 0, 0, 0, 0, 50, 1, 0])] := by decide +kernel

/-- R73: MOVE_AXIS to a target beyond the soft stop is clamped to 2392 for LONG, whose travel is 2400. -/
theorem test_move_axis :
    (((after calm (.moveAxis 0 5000 9)).seat.axis .long).op.map (·.target)) =
      some (some 2392) := by decide +kernel

/-! ### Chapter 4 -/

/-- 4.12: a frame of index 2 where index 1 is awaited closes the assembly with IMPORT_SEQUENCE for B3. -/
theorem test_import_sequence :
    let s := after (calm fun w => { w with store := { w.store with
      assembly := some ⟨2, 1, [0, 0, 0, 0, 0, 0, 0], 1000000⟩ } }) (.profileData [2, 0, 0, 0, 0, 0, 0, 0]);
    s.seat.store.assembly = none ∧ items s = [(.event .profileEvent, [7, 3, 10, 0, 0])] := by decide +kernel

/-- 4.12: a write of B3 from generation 7 carries 8 and ends 25 ms later. -/
theorem test_write :
    let s := calm fun w => { w with store := { w.store with
      slots := w.store.slots.set 2 ⟨.writing, [], 8⟩, write := some ⟨2, .importing, [1, 2], 25000⟩ } }
    let t := after s .profileWriteEnd
    items t = [(.event .profileEvent, [7, 3, 1, 0, 8])] ∧ t.seat.slot 2 = ⟨.valid, [1, 2], 8⟩ ∧ t.seat.now = 25000 := by
  decide +kernel

/-- 4.13 and 10.6: the driver's door opens while armed: LONG 1450 is kept and 1150 asked for. -/
theorem test_easy_exit :
    let s := calm fun w => { w.setAxis .long { rest 1450 with lastDir := .low } with
      peers := { w.peers with vehicle := ⟨⟨.off, some 0, false, false⟩, some 500000⟩ }
      store := { w.store with armed := true, mask := false }, power := { w.power with mode := .runOn } }
    let t := after s (.vehicleState [0, 0, 1])
    t.seat.store.returnPoint = some 1450 ∧ t.seat.store.armed = false ∧
      (t.seat.axis .long).op.map (·.target) = some (some 1150) := by decide +kernel

/-! ### Chapters 5 and 6 -/

/-- 5.8: LUMBAR UP at levels 5 and 4 asks for 6 and 3, LU measured first. -/
theorem test_lumbar_press :
    let s := calm fun w => { w.setSwitch 16 { w.switch 16 with contact := true, debounceAt := some 20000 } with
      pneu := { w.pneu with lumbarUpper := 5, lumbarLower := 4 } }
    let t := after s (.debounceExpiry 16)
    (t.seat.pneu.lumbarUpper, t.seat.pneu.lumbarLower) = (6, 3) ∧ t.seat.pneu.manifold = .measuring 8 100000 ∧
      t.seat.pneu.queue = [.measure 9] := by decide +kernel

/-- 5.8: LL reads 16 against its target 12: a vent of 100 ms. -/
theorem test_partial_vent :
    let s := calm fun w => { w.setCell 9 { w.cell 9 with adj := some ⟨12, 0, .measure, .level⟩ } with
      pneu := { (w.setCell 9 { w.cell 9 with adj := some ⟨12, 0, .measure, .level⟩ }).pneu with
        lumbarLower := 3, manifold := .measuring 9 80000 } }
    let t := after s (.measureSettleExpiry 16)
    (t.seat.cell 9).ventEnd = some 180000 ∧ (t.seat.cell 9).adj = some ⟨12, 1, .vent, .level⟩ := by decide +kernel

/-- 5.8: LU's FILL begins at the 20 its MEASURE read, whatever the sensor told of LL since. -/
theorem test_baseline :
    let w := Work.start (calm fun w => { w with
      alloc := { w.alloc with grants := [⟨.pump, .p2, 40, .start⟩] }
      pneu := { w.pneu with sensor := 16, manifold := .fillWait (Fill.make .support [8] 24 1500)
                            cells := w.pneu.cells.set 8 ⟨.holding, some 20, 0, none, false, none, none⟩ } }).seat
    (match w.tryPump.pneu.manifold with | .pumping f => some f.baseline | _ => none) = some 20 := by decide +kernel

/-- R119: a bolster FILL whose pump the entry to PROTECTING revokes becomes pending, not queued. -/
theorem test_revoked_bolster :
    let f := Fill.make .support [10] 24 1500
    let w := { Work.start (calm fun w => { w.setCell 10 { w.cell 10 with adj := some ⟨24, 1, .fill, .level⟩ } with
      pneu := { (w.setCell 10 { w.cell 10 with adj := some ⟨24, 1, .fill, .level⟩ }).pneu with manifold := .pumping f } }).seat
      with inbox := [.budget (.revoked .pump .budget)] }
    w.holdProtect.pneu.queue = [] ∧ (w.holdProtect.cell 10).adj.map (·.phase) = some .pending := by decide +kernel

/-- A massage session of program `p` at intensity `i`. -/
def session (p i : Nat) (f : Massage → Massage := id) : State := calm fun w => { w with
  massage := f { w.massage with
    state := .running, program := p, intensity := i, sessionEnd := some 900000000
    baseline := some (true, p, i), step := some (Step.make (some 0) [0, 1] [6, 7] 1200 25) } }

/-- 6.11: an ON edge starts WAVE: row 1 is filled to 25 kPa and row 4 vents to 1500 ms. -/
theorem test_session_start :
    let s := after (after calm (.comfortRequest [0, 0, 3, 0, 0])) (.comfortRequest [1, 0, 3, 0, 0]);
    s.seat.massage.state = .running ∧
      s.seat.pneu.manifold.active.map (fun e => (e.cells, e.cls)) = some ([0, 1], .massage) ∧
      (s.seat.cell 6).ventEnd = some 1500000 ∧ s.seat.massage.sessionEnd = some 900000000 := by decide +kernel

/-- 6.12: the stream falls silent: VENTING with reason STREAM_STALE, then OFF 1500 ms later. -/
theorem test_stream_silent :
    let s := after (session 7 2 fun m => { m with watch := some 3460000 }) .streamWatchExpiry;
    s.seat.massage.state = .venting ∧ s.seat.massage.ventingEnd = some 4960000 ∧
      (after s .ventingTimerExpiry).seat.massage.state = .off := by decide +kernel

/-! ### Chapters 7 to 10 -/

/-- 7.8: count 300 with trim +2 at level 1: T10 274, T10c 284, duty 46, claim and grant 30. -/
theorem test_heater_measurement :
    let s := calm fun w => { w with
      heat := { w.heat with cushion := { w.heat.cushion with level := 1, measuring := some 0 } }
      power := { w.power with config := { w.power.config with cushionTrim := 2 } } }
    let t := (after s (.heaterMeasurementDone .cushion 300)).seat
    (t.zone .cushion).t10 = some 274 ∧ t.corrected .cushion = some 284 ∧ (t.zone .cushion).dutyReq = 46 ∧
      t.alloc.cushionGrant = 30 ∧ t.effectiveDuty .cushion = 46 := by decide +kernel

/-- 7.8: a grant of 20 gives 30 %. 7.9: counts 200, 210 and 220 give 37.0, 35.9 and 34.8 °C. -/
theorem test_conversion :
    (100 * 20 / Config.fullDraw .cushion = 30) ∧
      [200, 210, 220, 35, 4095].map convertCount = [.temp 370, .temp 359, .temp 348, .short, .opened] := by decide +kernel

/-- 7.2: at duty 40 the output is high until 40 ms of its period, and low while the zone is measured. -/
theorem test_heater_output :
    let at_ := fun (n : Nat) (m : Option Nat) => (calm fun w => { w with
      now := n, heat := { w.heat with
        intervalAt := some 1000000, cushion := { w.heat.cushion with applied := 40, measuring := m } } }).seat
    (at_ 39999 none).heaterOutput .cushion = true ∧ (at_ 40000 none).heaterOutput .cushion = false ∧
      (at_ 39999 (some 35000)).heaterOutput .cushion = false := by decide +kernel

/-- 8.10: TILT 200, RECLINE 1100 and an unreferenced HEAD in NORMAL: the snapshot and the members. -/
theorem test_alert :
    let s := calm fun w => ((w.setAxis .tilt (rest 200)).setAxis .recline (rest 1100)).setAxis .head
      { rest 0 with referenced := false }
    let t := (after s (.precrash [1, 0])).seat
    t.pcu.state = .protecting ∧ t.pcu.snapshot.map (·.entries) = some [(.tilt, 200), (.recline, 1100)] ∧
      t.loadCeiling = 244 ∧
      t.motion.sequence.map (fun q => q.members.map fun m => (m.axis, m.target)) =
        some [(.tilt, 360), (.recline, 600), (.head, 0)] := by decide +kernel

/-- 8.10, R133: on the entry to RESTORING a session paused by PROTECT alone resumes WAVE with step 0; with SHED left, PROTECT
leaves the causes before the snapshot's program is set, and the session stays PAUSED. -/
theorem test_restoring_session :
    let w := fun (shed : Bool) => (Work.start (session 1 3 fun m => { m with
      state := .paused, byProtect := true, byShed := shed, stepEnded := true }).seat)
    let told := fun (w : Work) => (w.out.filter (·.head == .event .massageState)).map fun i => (i.content.take 3, i.content[5]?)
    let held := fun (shed : Bool) => (Work.enterRestoring { w shed with pcu := { (w shed).pcu with
      state := .holding, snapshot := some ⟨[], 0, .running, 0⟩ } })
    told (held true) = [([2, 3, 1], some 2), ([2, 15, 0], some 2)] ∧ (held true).massage.state = .paused ∧
      told (held false) = [([2, 15, 0], some 0), ([1, 2, 0], some 0)] ∧
      (held false).massage.step.map (·.index) = some (some 0) := by decide +kernel

/-- 9.10: a failure at tally 250 takes the link off for 500 ms at 258; LINK_OFF latches and its event waits. -/
theorem test_link_off :
    let s : State := { calm with link := { (calm).link with tally := 250, loaded := some ⟨.status, 0x642, [], false⟩ } }
    let t := after s .txFailed
    t.link.tally = 258 ∧ t.link.offUntil = some 500000 ∧ items t = [(.event .fault, [11, 0, 0, 1])] := by decide +kernel

/-- R180: right after reset the status is loaded. -/
theorem test_reset_loaded : State.reset.link = (Link.reset 0).load State.reset.seat := by decide +kernel

/-- 10.6: the run-on timer expires with motion quiet: SLEEP; an UNLOCK wakes the part for 180 s. -/
theorem test_run_on :
    let s := calm fun w => { w with power := { w.power with mode := .runOn, runOn := some 200000000 } }
    let t := after s .runOnTimerExpiry
    t.seat.power.mode = .sleep ∧ (after t (.keyEventUnlock 0)).seat.power.runOn = some 380000000 := by decide +kernel

/-- R199: CONFIGURE with concurrency 4 is BAD_VALUE; with the default values it is OK and closes the window. -/
theorem test_configure :
    items (after calm (.configure 0 25 10 4 0 0 0)) = [(.answer 13, [2, 255])] ∧
      items (after calm (.configure 0 25 10 2 0 0 0)) = [(.answer 13, [0, 255])] ∧
      (after calm (.configure 0 25 10 2 0 0 0)).seat.power.window = none := by decide +kernel

/-- R55, R199: a CONFIGURE that makes THIGH absent and lowers N to 1 ends THIGH's operation, and HEIGHT is not admitted
beside LONG. -/
theorem test_configure_limit :
    let waits := fun (c : Bool) => { operation .target .waiting with claimed := c, driven := false }
    let s := calm fun w => { ((w.setAxis .long { rest 100 with op := some (waits true) }).setAxis .thigh
        { rest 100 with op := some (waits true) }).setAxis .height { rest 100 with op := some (waits false) } with
      alloc := { w.alloc with queue := [⟨.axis .long, .p3, 900, 0⟩, ⟨.axis .thigh, .p3, 900, 0⟩] } }
    let s : State := { s with seat := { s.seat with motion := { s.seat.motion with admission := [.height] } } }
    let t := (after s (.configure 1 25 10 1 0 0 0)).seat
    (t.axis .thigh).op = none ∧ t.motion.admission = [.height] ∧ t.power.config.concurrency = 1 := by decide +kernel

/-- R200: RESTART is answered OK and reopens the window. -/
theorem test_restart :
    items (after calm .restart) = [(.answer 14, [0, 255])] ∧
      (after calm .restart).seat.power.window = some 10000000 := by decide +kernel

/-- R200, R166, R169, log entry 60: RESTART in HOLDING with the hold expired ends the PROTECT sequence, and the RESTORE
sequence and the bolster adjustments of the entry to RESTORING survive it. -/
theorem test_restart_hold_expired :
    let t := (after (withAxis .tilt { rest 360 with lastDir := .low } fun w => { w with
      motion := { w.motion with sequence := some ⟨.protect, 0, [Member.make .tilt .target 360 .high]⟩ }
      pneu := { w.pneu with hold := .protect }
      pcu := { w.pcu with
        state := .holding, holdExpired := true, protectMark := true
        snapshot := some ⟨[(.tilt, 200)], 2, .off, 0⟩ } }) .restart).seat
    t.pcu.state = .restoring ∧ t.motion.sequence.map (·.kind) = some .restore ∧ (t.axis .tilt).drive = .starting ∧
      t.adjustments = 4 ∧ t.power.window = none := by decide +kernel

/-! ### Witnesses: states and operands that meet the hypotheses of the statements -/

/-- Awake, by its three conditions, with a further condition. -/
theorem awake_and {s : State} {P : Prop} [Decidable P]
    (h : (s.seat.band.isSome && s.seat.power.mode != .sleep && !s.seat.power.sleepPending && decide P) = true) :
    s.Awake ∧ P := by
  simp only [Bool.and_eq_true, bne_iff_ne, Bool.not_eq_true', decide_eq_true_eq] at h
  exact ⟨⟨h.1.1.1, h.1.1.2, h.1.2⟩, h.2⟩

/-- Powered, with a further condition. -/
theorem powered_and {s : State} {P : Prop} [Decidable P] (h : (s.seat.band.isSome && decide P) = true) : s.Powered ∧ P := by
  simp only [Bool.and_eq_true, decide_eq_true_eq] at h
  exact h

/-- The part in supply reset with slot 1 EMPTY, slot 2 WRITING, slot 3 CORRUPT, slot 4 VALID, and slot 5 VALID but with a
record that fails its check. -/
def dark : State := { State.reset with seat := { State.reset.seat with
  band := none
  store := { State.reset.seat.store with
    slots := (((State.reset.seat.store.slots.set 1 ⟨.writing, [], 3⟩).set 2 ⟨.corrupt, [], 4⟩).set 3
      ⟨.valid, (State.reset.seat.buildRecord 3 0 none none).withCheck, 5⟩).set 4 ⟨.valid, [], 6⟩ } } }

/-- The part in SLEEP. -/
def asleep : State := calm fun w => { w with power := { w.power with mode := .sleep } }

theorem witness_EveryCommandAnswers : State.reset.pending = [] := rfl

/-- A transmitter at every bound of its invariant. -/
def fullLink : State :=
  let l := { Link.reset 0 with
    queue := List.replicate 8 ⟨.event .axisDone, [0]⟩, tally := 255, loaded := some ⟨.status, 0x642, [], false⟩ }
  { calm with link := l, pending := [.txFailed] }

theorem witness_StepKeepsLinkBounds : fullLink.link.Bounded ∧ ∃ t, step fullLink = .next t :=
  ⟨⟨by decide, by decide, by decide, by decide⟩, _, rfl⟩

/-- Grants that fill the load ceiling of the calm part, 244, and a claim that waits. -/
def fullBudget : State := { calm (fun w => { w with alloc := ⟨[⟨.pump, .p1, 40, .run⟩, ⟨.axis .long, .p3, 100, .start⟩],
  [⟨.axis .height, .p3, 100, 0⟩], 65, 59, 45, 45⟩ }) with pending := [.peerStatus 1 [0, 80, 0, 0, 0, 0, 0, 0]] }

theorem witness_StepKeepsBudgetLaw :
    fullBudget.seat.alloc.Sound fullBudget.seat.loadCeiling ∧ fullBudget.seat.alloc.total = fullBudget.seat.loadCeiling ∧
      ∃ t, step fullBudget = .next t :=
  ⟨⟨by decide +kernel, by decide +kernel, by decide +kernel, by decide +kernel, by decide +kernel⟩, by decide +kernel, _, rfl⟩

theorem rest_bounded (a : Axis) : (rest 100).Bounded a := by cases a <;> exact ⟨by decide, by decide, by decide, by decide, by decide⟩

theorem witness_StepKeepsAxisBounds :
    (∀ a, ((calm).seat.axis a).Bounded a) ∧ ∃ t, step { calm with pending := [.moveAxis 0 900 1] } = .next t :=
  ⟨fun a => by cases a <;> exact rest_bounded _, _, rfl⟩

theorem witness_StepKeepsRanges :
    (calm).seat.InRange ∧ ∃ t, step { calm with pending := [.configure 0 35 40 3 1 7 249] } = .next t :=
  ⟨⟨by decide +kernel, by decide +kernel, by decide +kernel, by decide +kernel,
    fun z => by cases z <;> exact ⟨by decide +kernel, nofun⟩, by decide +kernel, by decide +kernel, by decide +kernel,
    fun z => by cases z <;> decide +kernel⟩, _, rfl⟩

theorem witness_StepKeepsDuty :
    (let s := calm fun w => w.setZone .cushion { w.zone .cushion with level := 1, t10 := some 300, dutyReq := 30 };
      s.seat.DutyKept ∧ (s.seat.zone .cushion).dutyReq = 30 ∧
        ∃ t, step { s with pending := [.vehicleState [0, 0, 0]] } = .next t) :=
  ⟨fun z => by cases z <;> decide +kernel, by decide +kernel, _, rfl⟩

/-- A held sequence of one member. -/
def holding (k : SeqKind) (st : MemberState := .active) (f : Work → Work := id) : State := calm fun w => f { w with
  motion := { w.motion with sequence := some ⟨k, 9, [⟨.long, .home, 0, .low, st, true, false⟩]⟩ } }

theorem witness_StepKeepsRestoring :
    (let s := holding .restore .active fun w => { w with pcu := { w.pcu with state := .restoring } };
      (s.seat.RestoreHeld ∧ s.seat.pcu.HoldTimed) ∧ s.seat.motion.sequence.map (·.kind) = some .restore ∧
        ∃ t, step { s with pending := [.precrash [2, 1]] } = .next t) ∧
    (let s := holding .easy .active fun w => { w with pcu := { w.pcu with state := .holding, holdEnd := some 2000000 } };
      (s.seat.RestoreHeld ∧ s.seat.pcu.HoldTimed) ∧ s.seat.pcu.holdEnd = some 2000000 ∧
        ∃ t, step { s with pending := [.pcuHoldExpiry] } = .next t) :=
  ⟨⟨⟨fun _ _ _ => rfl, nofun⟩, by decide +kernel, _, rfl⟩,
    ⟨⟨fun _ h k => (by cases h; cases k), fun _ => rfl⟩, by decide +kernel, _, rfl⟩⟩

theorem witness_OnlyTheseChange : (calm).Awake ∧ Instr.mayChange .positions .stopAll = false :=
  awake_and (by decide +kernel)

theorem witness_FrameOrPressWakes :
    (asleep.Powered ∧ asleep.seat.power.mode = .sleep ∧
      (Instr.keyEventUnlock 0).isFrame asleep.seat.power.node = true) ∧
    (let s := calm fun w => { w.setSwitch 5 { w.switch 5 with contact := true, debounceAt := some 20000 } with
        power := { w.power with mode := .sleep } };
      s.Powered ∧ s.seat.power.mode = .sleep ∧ (s.seat.switch 5).debounceAt = some 20000 ∧
        (s.seat.switch 5).contact = true) :=
  ⟨powered_and (by decide +kernel), powered_and (by decide +kernel)⟩

theorem witness_BadFrames :
    ((calm).Awake ∧ (Instr.precrash [0]).badLength (calm).seat.power.node = some 0 ∧
      (calm).seat.faults.isLatched ⟨.frameFormat, 0⟩ = false) ∧
    ((calm fun w => { w with faults := w.faults.latch ⟨.frameFormat, 0⟩ }).Awake ∧
      (calm fun w => { w with faults := w.faults.latch ⟨.frameFormat, 0⟩ }).seat.faults.isLatched ⟨.frameFormat, 0⟩ = true) ∧
    ((calm).Awake ∧ ∀ n ∈ ([(1, 1), (2, 1), (3, 4), (4, 2), (5, 0), (6, 1), (7, 1), (8, 1), (9, 1), (10, 0), (11, 0), (12, 1),
      (13, 7), (14, 0)] : List (Nat × Nat)), ¬((15 : Byte).toNat = n.1 ∧ ([] : List Byte).length = n.2) ∧
        ¬((5 : Byte).toNat = n.1 ∧ ([0] : List Byte).length = n.2)) ∧
    readRequest [5] = some .stopAll :=
  ⟨awake_and (by decide +kernel), awake_and (by decide +kernel), awake_and (by decide +kernel), by decide +kernel⟩

/-! Chapter 1 -/

/-- The calm part with a band in force. -/
def banded (b : Band) : State := calm fun w => { w with band := some b }

theorem witness_BandByR1 :
    (∀ b ∈ [Band.normal, .high, .low, .critical],
      (banded b).seat.band = some b ∧ (banded b).seat.power.sleepPending = false ∧ 6000 ≤ 6000) ∧
    (let s := calm fun w => { w with band := some .low, faults := (w.faults.setLive ⟨.supplyLow, 0⟩).latch ⟨.supplyLow, 0⟩ };
      s.seat.band = some .low ∧ s.seat.Latched .supplyLow 0 ∧ s.seat.power.sleepPending = false ∧
        (after s (.supplyComparatorEvent 8999)).seat.band = some .critical) :=
  ⟨by decide +kernel, rfl, rfl, rfl, by decide +kernel⟩

/-- Slot 2 is being written. -/
def writing : State := calm fun w => { w with store := { w.store with slots := w.store.slots.set 1 ⟨.writing, [], 3⟩ } }

theorem witness_SupplyFallResets :
    (writing.Powered ∧ 5999 < 6000 ∧ (writing.seat.slot 0).state ≠ .writing ∧ (writing.seat.slot 1).state = .writing) ∧
    (dark.seat.band = none ∧ (∀ n d v, Instr.stopAll ≠ .supplyResetExit n d v) ∧
      (∀ p x, Instr.stopAll ≠ .contactChange p x)) :=
  ⟨powered_and (by decide +kernel), rfl, nofun, nofun⟩

theorem witness_SupplyRiseStarts :
    dark.seat.band = none ∧ 6000 ≤ 6000 ∧ (dark.seat.slot 0).state = .empty ∧ (dark.seat.slot 1).state = .writing ∧
      (dark.seat.slot 2).state = .corrupt ∧ (dark.seat.slot 3).state = .valid ∧
      readPasses 4 (dark.seat.slot 3).bytes = true ∧ (dark.seat.slot 4).state = .valid ∧
      readPasses 5 (dark.seat.slot 4).bytes = false := by decide +kernel

/-- The calm part under an allowance record and a pre-crash state. -/
def allowed (e : EnergyRec) (b : Option Band := some .normal) (p : PcuState := .normal) : Seat :=
  (calm fun w => { w with peers := { w.peers with energy := e }, band := b, pcu := { w.pcu with state := p } }).seat

/-- Station 1 has reported. -/
def neighbour : State := calm fun w => { w with
  peers := { w.peers with stations := w.peers.stations.set 1 ⟨80, some 300000⟩ } }

theorem witness_CeilingInputs :
    ((calm).Awake ∧ (calm).seat.power.sleepPending = false ∧ (calm).seat.peers.energy.staleAt = some 2000000 ∧
      (calm).seat.ignition ≠ .off) ∧
    ((allowed ⟨.unlimited, false, some 1⟩).peers.energy.allowance = .unlimited ∧
      (allowed ⟨.value 400, false, some 1⟩).peers.energy.allowance = .value 400 ∧
      (allowed ⟨.value 0, false, none⟩).peers.energy.staleAt = none ∧
      (allowed ⟨.value 0, false, none⟩ (some .high)).band = some .high ∧
      (allowed ⟨.value 0, false, none⟩ (some .low) .protecting).pcu.state = .protecting ∧
      (allowed ⟨.value 0, false, none⟩ (some .critical)).pcu.state ≠ .protecting) ∧
    (neighbour.Awake ∧ (0 : Station) = neighbour.seat.power.node ∧ (1 : Station) ≠ neighbour.seat.power.node) ∧
    (neighbour.Powered ∧ neighbour.seat.power.sleepPending = false ∧
      (neighbour.seat.peers.stations.get 1).staleAt = some 300000) :=
  ⟨awake_and (by decide +kernel), by decide +kernel, awake_and (by decide +kernel), powered_and (by decide +kernel)⟩

theorem shared_sound : shared.Sound (envOf 174).ceiling :=
  ⟨by decide +kernel, by decide +kernel, by decide +kernel, by decide +kernel, by decide +kernel⟩

/-- Free 37 and reclaimable 137 in 1.11: 174 is granted, 175 is not. -/
theorem witness_ClassesOrderClaims :
    shared.Sound (envOf 174).ceiling ∧ (shared.tryGrant (envOf 174) ⟨.axis .long, .p1, 100, 0⟩).isSome = true ∧
      (∃ g ∈ shared.grants, Cls.p1.rank ≤ g.cls.rank) ∧ (envOf 174).permits .p1 = true ∧
      134 ≤ ((envOf 174).ceiling - shared.total) + (shared.cushionGrant + shared.backGrant) :=
  ⟨shared_sound, by decide +kernel⟩

/-- 174 for a P3 motor takes both heaters and the pump of 1.11; a ceiling of 134 sheds, and
one of 20 takes the pump too; the pump of `heightStarts` waits. -/
theorem witness_CurrentTakenInOrder :
    shared.Sound (envOf 174).ceiling ∧ (shared.tryGrant (envOf 174) ⟨.axis .long, .p3, 174, 0⟩).isSome = true ∧
      shared.total + 174 - 174 = 137 ∧ (envOf 134).ceiling < shared.total ∧
      shared.cushionGrant + shared.backGrant < shared.total - (envOf 20).ceiling ∧
      (shared.cushionGrant ≤ shared.cushionClaim ∧ shared.backGrant ≤ shared.backClaim ∧ shared.queue = [] ∧
        (envOf 174).heatersPermitted = true ∧ shared.total ≤ (envOf 174).ceiling) ∧
      heightStarts.queue ≠ [] ∧ shared.grantOf .pump = some ⟨.pump, .p1, 40, .start⟩ ∧
      heightStarts.grantOf .pump = none ∧ heightStarts.entryOf .pump = some ⟨.pump, .p1, 40, 0⟩ ∧
    (∀ n ∈ [174, 175],
        0 < n ∧ shared.holds (.axis .long) = false ∧ shared.queued (.axis .long) = false ∧ (envOf 174).permits .p3 = true ∧
        ((174 - shared.total) + (shared.cushionGrant + shared.backGrant +
          grantSum (shared.grants.filter fun g => g.cls.rank < Cls.p3.rank)) = 174)) :=
  ⟨shared_sound, by decide +kernel⟩

/-- The environment of 1.11 in another band or in PROTECTING. -/
def envIn (b : Option Band) (p : Bool := false) : AllocEnv := ⟨174, p, b, 0⟩

/-- A grant of each class that may be held, within L = 174. -/
def mixed : Allocating :=
  { grants := [⟨.pump, .p1, 40, .run⟩, ⟨.axis .long, .p3, 50, .run⟩, ⟨.axis .tilt, .p5, 40, .run⟩], queue := []
    cushionClaim := 52, cushionGrant := 20, backClaim := 45, backGrant := 20, notes := [] }

theorem mixed_sound : mixed.Sound 174 :=
  ⟨by decide +kernel, by decide +kernel, by decide +kernel, by decide +kernel, by decide +kernel⟩

theorem witness_GrantRestrictions :
    mixed.Sound 174 ∧ (∀ b ∈ [some Band.normal, some .low, some .critical, some .high], (envIn b).protecting = false) ∧
      mixed.total ≤ (envIn (some .low)).ceiling ∧ (envIn (some .normal) true).protecting = true ∧
      (∀ e ∈ mixed.queue, e.cls ≠ .p5) ∧ (∃ g ∈ mixed.grants, g.load = .pump ∧ g.cls = .p1) :=
  ⟨mixed_sound, by decide +kernel⟩

/-! Chapter 2 -/

/-- LONG driven under each drive form. -/
def formed (o : Order) (p : Int := 1000) : AxisRec := { driven p with order := some o }

theorem witness_AxisTables :
    (∀ f ∈ [Form.normal, .fast, .timed, .rescue50, .corrective], (formed (order (some 1600) f)).driving = true) ∧
      (formed (order (some 1600)) 1559).remaining (order (some 1600)) = some 41 ∧
      (formed (order (some 1600)) 1560).remaining (order (some 1600)) = some 40 ∧
      (formed (order none)).driving = true ∧ (order none).stop = none ∧
    (Config.channelMap 1 .head = Config.channelMap 1 .head ∧ (Config.channelMap 1 .head).isSome) ∧
      Config.axisOn 1 4 = some .head := by decide +kernel

/-- The run-on timer runs, with the blocks changed. -/
def runningOn (f : Work → Work := id) : State :=
  calm fun w => f { w with power := { w.power with mode := .runOn, runOn := some 180000000 } }

/-- LONG BRAKING, with what its order, operation and grant are. -/
def braking (o : Option Order) (op : Option Op) (held : Bool) : State :=
  withAxis .long { rest 1000 with drive := .braking, phaseEnd := some 40000, order := o, op := op } fun w =>
    if held then { w with alloc := { w.alloc with grants := [⟨.axis .long, .p3, 100, .start⟩] } } else w

theorem witness_StartAndBrakeEnd :
    (let s := withAxis .long { driven 1000 with drive := .starting, phaseEnd := some 150000 };
      s.Powered ∧ (s.seat.axis .long).drive = .starting ∧ (s.seat.axis .long).phaseEnd = some 150000 ∧
        s.seat.alloc.queued (.axis .long) = false) ∧
    (let s := withAxis .long { driven 1000 with drive := .starting, phaseEnd := some 150000 } fun w =>
        { w with alloc := { w.alloc with grants := [⟨.axis .long, .p3, 100, .start⟩] } };
      s.seat.alloc.Sound s.seat.loadCeiling ∧
        s.seat.alloc.grantOf (.axis .long) = some ⟨.axis .long, .p3, 100, .start⟩ ∧ Config.runDraw .long ≤ 100 ∧
        s.seat.alloc.queue = []) ∧
    ((runningOn).seat.power.mode = .runOn) ∧
    ((braking none none false).Powered ∧ ((braking none none false).seat.axis .long).order = none) ∧
    (let s := braking (some ⟨.low, .normal, none, false⟩) (some (operation .target .waiting)) false;
      s.Powered ∧ s.seat.alloc.holds (.axis .long) = false ∧ (s.seat.axis .long).order.isSome = true) ∧
    (let s := braking (some ⟨.low, .normal, none, false⟩) (some (operation .target .waiting)) true;
      s.Powered ∧ (s.seat.axis .long).drive = .braking ∧ (s.seat.axis .long).phaseEnd = some 40000 ∧
        (s.seat.axis .long).op.map (·.claimed) = some true ∧ s.seat.alloc.holds (.axis .long) = true ∧
        (s.seat.axis .long).pendingFault = false) :=
  ⟨powered_and (by decide +kernel),
    ⟨⟨by decide +kernel, by decide +kernel, by decide +kernel, by decide +kernel, by decide +kernel⟩, by decide +kernel⟩,
    rfl, powered_and (by decide +kernel), powered_and (by decide +kernel), powered_and (by decide +kernel)⟩

/-- LONG COASTING at `p`. -/
def coasting (p : Int) (f : AxisRec → AxisRec) : State :=
  withAxis .long (f { rest p with drive := .coasting, phaseEnd := some 60000 })

theorem witness_CoastEnds :
    (let s := coasting 1000 fun r => { r with pendingFault := true };
      s.Powered ∧ (s.seat.axis .long).drive = .coasting ∧ (s.seat.axis .long).phaseEnd = some 60000 ∧
        (s.seat.axis .long).op = none ∧ (s.seat.axis .long).pendingFault = true) ∧
    ((coasting 1000 id).Powered ∧ ((coasting 1000 id).seat.axis .long).op = none ∧
      ((coasting 1000 id).seat.axis .long).resetDeadband = false ∧ ((coasting 1000 id).seat.axis .long).order = none) ∧
    (let s := coasting 0 fun r => { r with resetDeadband := true };
      s.Powered ∧ (s.seat.axis .long).op = none ∧ (s.seat.axis .long).resetDeadband = true) ∧
    (let s := coasting 1000 fun r => { r with
        op := some (operation .target .waiting), order := some ⟨.low, .normal, none, false⟩ };
      s.Powered ∧ (s.seat.axis .long).order.any (fun o => decide (o.dir ≠ (s.seat.axis .long).lastDir)) = true ∧
        (s.seat.axis .long).pendingFault = false ∧ (s.seat.axis .long).resetDeadband = false) ∧
    (∀ b ∈ [true, false],
      let o := { operation .target .waiting with claimed := b };
      let s := withAxis .long { rest 1000 with
          drive := .coasting, phaseEnd := some 60000, op := some o, order := some (order (some 1600)) } fun w =>
        if b then { w with alloc := { w.alloc with grants := [⟨.axis .long, .p3, 100, .start⟩] } } else w;
      (s.seat.axis .long).op = some o ∧ (s.seat.axis .long).order = some (order (some 1600)) ∧
        (order (some 1600)).dir = (s.seat.axis .long).lastDir ∧ (s.seat.axis .long).pendingFault = false ∧
        (s.seat.axis .long).resetDeadband = false ∧ s.seat.alloc.holds (.axis .long) = b) ∧
    (∀ p ∈ [(1597 : Int), 1603],
      let s := coasting p fun r => { r with op := some (operation .target .settling) };
      (s.seat.axis .long).op = some (operation .target .settling) ∧ (s.seat.axis .long).order = none ∧
        withinTolerance (s.seat.axis .long).position 1600 = true) ∧
    (∀ p ∈ [(1596 : Int), 1604],
      let s := coasting p fun r => { r with op := some (operation .target .settling) };
      (s.seat.axis .long).op = some (operation .target .settling) ∧
        withinTolerance (s.seat.axis .long).position 1600 = false) ∧
    (∀ st ∈ [OpState.settling, .correcting, .returning], ∀ b ∈ [true, false],
      let o := { operation .target st with corrected := b };
      let s := coasting 1596 fun r => { r with op := some o };
      (s.seat.axis .long).op = some o ∧ o.obstructed = false ∧ o.target = some 1600 ∧ o.corrected = b) ∧
    (∀ p ∈ [(1000 : Int), 8 + Config.coastAllowance .long, 9 + Config.coastAllowance .long],
      ∀ st ∈ [OpState.settling, .returning],
      let o := { operation .target st with obstructed := true };
      let s := coasting p fun r => { r with op := some o };
      (s.seat.axis .long).op = some o ∧ (s.seat.axis .long).order = none ∧ (s.seat.axis .long).lastDir = .high ∧
        o.obstructed = true ∧ (p = 8 + Config.coastAllowance .long →
          p - max (p - 30) 8 ≤ Config.coastAllowance .long) ∧ (p ≠ 8 + Config.coastAllowance .long →
          Config.coastAllowance .long < p - max (p - 30) 8)) ∧
    (∀ p ∈ [(519 : Int), 520],
      let o := { operation .home .settling none with startPos := 0, stallPos := -520 };
      let s := coasting p fun r => { r with op := some o, lastDir := .low };
      (s.seat.axis .long).op = some o ∧ o.obstructed = false ∧ o.startPos - o.stallPos = 520 ∧
        (s.seat.axis .long).lastDir = .low ∧ withinTolerance p 520 = true) ∧
    (let s := coasting 100 fun r => { r with op := some (operation .timed .settling none) };
      (s.seat.axis .long).op = some (operation .timed .settling none)) :=
  ⟨powered_and (by decide +kernel), powered_and (by decide +kernel), powered_and (by decide +kernel),
    powered_and (by decide +kernel), by decide +kernel, by decide +kernel, by decide +kernel, by decide +kernel,
    by decide +kernel, by decide +kernel, by decide +kernel⟩

theorem witness_HallEdgeCounts :
    ((calm).Powered ∧ (calm).seat.power.sleepPending = false ∧ Config.axisOn (calm).seat.variant 7 = none) ∧
    (asleep.Powered ∧ asleep.seat.power.sleepPending = false ∧ asleep.seat.power.mode = .sleep) ∧
    (let s := withAxis .long { rest 2400 with tally := 14 };
      s.Powered ∧ s.seat.power.mode ≠ .sleep ∧ Config.axisOn s.seat.variant 0 = some .long ∧
        (s.seat.axis .long).driving = false ∧ (s.seat.axis .long).tally = 14) ∧
    (let s := withAxis .long (driven 1595);
      s.Powered ∧ (s.seat.axis .long).driving = true ∧ (s.seat.axis .long).tally ≤ 14 ∧
        (s.seat.axis .long).op = some (operation .target .moving) ∧ (s.seat.axis .long).order = some (order (some 1600)) ∧
        ({ s.seat.axis .long with position := 1596 } : AxisRec).within (order (some 1600)) (stopDistance .long .normal) = true) ∧
    (let s := withAxis .long { rest 1000 with tally := 15, lastEdge := some 0 };
      s.Powered ∧ (s.seat.axis .long).tally = 15 ∧ (s.seat.axis .long).referenced = true ∧ (s.seat.axis .long).op = none ∧
        s.seat.now + 1499 - 0 < 1500) ∧
    (∀ o ∈ [operation .target .moving, operation .home .returning, operation .home .correcting, operation .home .settling,
        operation .timed .moving, operation .home .waiting, operation .home .moving, { operation .jog .moving with source := .switch }],
      let s := withAxis .long { driven 1000 with
        op := some o, order := some (order none), tally := 15, intervals := List.replicate 8 9000, driveEdges := 90 };
      s.seat.band.isSome = true ∧ s.seat.power.mode ≠ .sleep ∧ (s.seat.axis .long).tally = 15 ∧
        (s.seat.axis .long).referenced = true ∧ (s.seat.axis .long).lastEdge = some 0 ∧ (s.seat.axis .long).op = some o ∧
        (s.seat.axis .long).driving = true ∧ 90 + 1 ≤ Config.travel .long * 5 / 4) ∧
    (let s := withAxis .long { driven 1595 with tally := 15 };
      (s.seat.axis .long).driving = true ∧ (s.seat.axis .long).tally = 15 ∧ (s.seat.axis .long).lastEdge = some 0 ∧
        1500 ≤ s.seat.now + 1500 - 0 ∧ (s.seat.axis .long).op = some (operation .target .moving) ∧
        ({ s.seat.axis .long with position := 1596 } : AxisRec).within (order (some 1600)) (stopDistance .long .normal) = true) ∧
    (∀ n ∈ [2999, 3000],
      let s := withAxis .long { driven 1000 with
        op := some (operation .home .moving), order := some (order none), driveEdges := n };
      (s.seat.axis .long).driving = true ∧ (s.seat.axis .long).tally ≤ 14 ∧
        (Config.travel .long * 5 / 4 < (s.seat.axis .long).driveEdges + 1 ↔ n = 3000)) ∧
    (∀ o ∈ [operation .jog .moving none, operation .target .correcting, operation .home .returning],
      let s := withAxis .long { driven 1595 with op := some o };
      (s.seat.axis .long).op = some o ∧ (s.seat.axis .long).order = some (order (some 1600)) ∧
        (s.seat.axis .long).driving = true ∧ (s.seat.axis .long).tally ≤ 14 ∧
        ({ s.seat.axis .long with position := 1596 } : AxisRec).within (order (some 1600)) (stopDistance .long .normal) = true) ∧
    (let s := withAxis .long { driven 1000 with referenced := false, tally := 15, order := some (order none) } fun w =>
        { w with faults := w.faults.latch ⟨.hallImplausible, 0⟩ };
      (s.seat.axis .long).tally = 15 ∧ (s.seat.axis .long).referenced = false ∧ (s.seat.axis .long).lastEdge = some 0 ∧
        (s.seat.axis .long).order = some (order none) ∧ s.seat.faults.isLatched ⟨.hallImplausible, Axis.long.index.val⟩ = true) ∧
    (∀ p ∈ [62, 63], ((withAxis .long { rest 5 with plausible := p, lastEdge := some 0 }).seat.axis .long).plausible = p) :=
  ⟨powered_and (by decide +kernel), powered_and (by decide +kernel), powered_and (by decide +kernel),
    powered_and (by decide +kernel), powered_and (by decide +kernel), by decide +kernel, by decide +kernel,
    by decide +kernel, by decide +kernel, by decide +kernel, by decide +kernel⟩

theorem witness_StallJudged :
    ∀ e ∈ [0, 1], ∀ k ∈ [OpKind.target, .home, .timed, .jog], ∀ st ∈ [OpState.moving, .returning], ∀ n ∈ [39, 40],
      let o := { operation k st with source := if k = .jog then .switch else .service };
      let s := withAxis .long { driven 1000 with op := some o, opEdges := e, driveEdges := n, lastDir := .low };
      s.seat.band.isSome = true ∧ (s.seat.axis .long).drive = .running ∧ (s.seat.axis .long).stallAt = some 120000 ∧
        (s.seat.axis .long).op = some o ∧ (s.seat.axis .long).opEdges = e ∧ o.kind = k ∧ o.state = st ∧
        (s.seat.axis .long).driveEdges = n ∧ (s.seat.axis .long).lastDir = .low := by decide +kernel

theorem witness_DriveEndsByTime :
    (let s := withAxis .long { driven 1000 with intervals := List.replicate 8 9000 };
      s.Powered ∧ (s.seat.axis .long).driving = true ∧ (s.seat.axis .long).order = some (order (some 1600)) ∧
        (order (some 1600)).obstruct = true ∧ (s.seat.axis .long).op = some (operation .target .moving) ∧
        (s.seat.axis .long).intervals.length = 8 ∧ (s.seat.axis .long).lastEdge = some 0) ∧
    (let s := withAxis .long { driven 1000 with timedEnd := some 700000 };
      s.Powered ∧ (s.seat.axis .long).driving = true ∧ (s.seat.axis .long).timedEnd = some 700000) ∧
    (let s := withAxis .long { rest 1000 with op := some { operation .target .waiting with startTimer := some 5000000 } };
      s.Powered ∧ (s.seat.axis .long).op.bind (·.startTimer) = some 5000000) :=
  ⟨powered_and (by decide +kernel), powered_and (by decide +kernel), powered_and (by decide +kernel)⟩

theorem witness_AxisTimersKeepOthers : (withAxis .long (driven 1000)).Powered ∧
    Instr.coastEnd .long = .coastEnd .long := powered_and (by decide +kernel)

/-! Chapter 3 -/

/-- What each test of MOVE_AXIS and HOME_AXIS finds: PROTECTING, FAULT, unreferenced, an operation in progress. -/
theorem witness_MoveAndHomeAxis :
    ((calm).Awake ∧ 6 < (7 : Byte).toNat ∧ Axis.index .thigh = 6 ∧ (calm).seat.pcu.state = .normal ∧
      ((calm).seat.axis .long).referenced = true ∧ ((calm).seat.axis .long).op = none ∧
      ((calm).seat.axis .long).position - 103 ≤ 3 ∧ (103 : Int) - ((calm).seat.axis .long).position ≤ 3 ∧
      ¬((104 : Int) - ((calm).seat.axis .long).position ≤ 3)) ∧
    (let s := calm fun w => { w with power := { w.power with config := { w.power.config with variant := 3 } } };
      s.Awake ∧ Config.channelMap s.seat.variant .thigh = none) ∧
    (let s := calm fun w => { w with pcu := { w.pcu with state := .protecting } };
      s.Awake ∧ s.seat.pcu.state = .protecting) ∧
    (let s := withAxis .long { rest 500 with drive := .fault };
      s.Awake ∧ (s.seat.axis .long).drive = .fault) ∧
    (let s := withAxis .long { rest 500 with referenced := false };
      s.Awake ∧ (s.seat.axis .long).referenced = false) ∧
    (let s := withAxis .long { rest 500 with op := some (operation .jog .waiting) };
      s.Awake ∧ (s.seat.axis .long).op ≠ none) ∧
    ((calm).Awake ∧ (255 : Byte).toNat = 255 ∧ 6 < (7 : Byte).toNat ∧ (calm).seat.motion.sequence = none ∧
      ((calm).seat.axis .long).drive ≠ .fault ∧ ((calm).seat.axis .long).op = none) ∧
    ((holding .home).Awake ∧ (holding .home).seat.motion.sequence ≠ none ∧ (holding .home).seat.pcu.state = .normal) ∧
    ((calm fun w => { w with motion := { w.motion with axes := Vector.replicate 7 { rest 0 with drive := .fault } } }).Awake ∧
      ∀ a ∈ Axis.all, ((calm fun w => { w with motion := { w.motion with
        axes := Vector.replicate 7 { rest 0 with drive := .fault } } }).seat.axis a).drive = .fault) :=
  ⟨awake_and (by decide +kernel), awake_and (by decide +kernel), awake_and (by decide +kernel),
    awake_and (by decide +kernel), awake_and (by decide +kernel), awake_and (by decide +kernel),
    awake_and (by decide +kernel), awake_and (by decide +kernel), awake_and (by decide +kernel)⟩

/-- A sequence of LONG and HEIGHT in the states given; `f` changes LONG's record. -/
def sequenced (k : SeqKind) (kind : OpKind) (target : Int) (f : AxisRec → AxisRec := id) : State :=
  withAxis .long (f (rest 100)) fun w => { w with motion := { w.motion with
    sequence := some ⟨k, 2, [⟨.long, kind, target, .low, .pending, false, false⟩, Member.toTarget .height 50]⟩ } }

theorem witness_SequencePacing :
    (∀ k ∈ [SeqKind.recall, .home, .protect], ∀ st ∈ [MemberState.active, .ended .done], ∀ b ∈ [true, false],
      let q : Machine.Sequence := ⟨k, 2, [⟨.long, .home, 0, .low, st, true, b⟩, Member.toTarget .height 50]⟩;
      q.members.find? (·.state == .pending) = some (Member.toTarget .height 50)) ∧
    (∀ st ∈ [OpState.moving, .correcting],
      let o := { operation .target st with member := true };
      let s := withAxis .long { driven 1000 with drive := .starting, phaseEnd := some 150000, op := some o } fun w =>
        { w with motion := { w.motion with sequence := some ⟨.recall, 2, []⟩ } };
      s.seat.band.isSome = true ∧ (s.seat.axis .long).drive = .starting ∧ (s.seat.axis .long).phaseEnd = some 150000 ∧
        (s.seat.axis .long).op = some o ∧ o.member = true ∧ s.seat.motion.sequence.isSome = true) ∧
    (∀ k ∈ [SeqKind.recall, .home, .protect],
      ∀ s ∈ [sequenced k .target 103, sequenced k .target 104, sequenced k .home 0, sequenced k .timed 0,
        sequenced k .target 104 fun r => { r with drive := .fault },
        sequenced k .target 104 fun r => { r with referenced := false },
        sequenced k .target 104 fun r => { r with op := some (operation .jog .waiting) }],
      s.seat.motion.sequence.any (fun q => q.kind == k && q.members.head?.any (fun m => m.axis == .long && m.state == .pending) &&
        decide (q.members.map (·.axis)).Nodup) = true ∧ ∀ o ∈ (s.seat.axis .long).op, o.member = false) ∧
    (∀ c ∈ [Code.done, .stalled, .refusedUnreferenced],
      let q : Machine.Sequence := ⟨.recall, 2, [⟨.long, .home, 0, .low, .ended c, true, false⟩]⟩;
      (q.members.map (·.axis)).Nodup ∧ ∀ m ∈ q.members, m.state.isEnded = true) ∧
    ((sequenced .recall .target 104).seat.motion.sequence.isSome = true ∧
      (Work.start (sequenced .recall .target 104).seat).advanceSequence.motion.sequence ≠ none) :=
  ⟨by decide +kernel, by decide +kernel, by decide +kernel, by decide +kernel, by decide +kernel⟩

theorem witness_StopAllByR75 :
    ((calm).Awake ∧ (calm).seat.motion.sequence = none ∧ ∀ a ∈ Axis.all, ((calm).seat.axis a).op = none) ∧
    ((withAxis .long (driven 1000)).Awake ∧
      ((withAxis .long (driven 1000)).seat.axis .long).op = some (operation .target .moving) ∧
      (operation .target .moving).member = false ∧ (operation .target .moving).source ≠ .protect) ∧
    (∀ k ∈ [SeqKind.recall, .easy, .restore, .home, .protect],
      (holding k).seat.motion.sequence.map (fun q => (q.kind, q.members.map (·.state))) = some (k, [.active])) ∧
    (let o := { operation .target .moving with source := .protect };
      let s := withAxis .long { driven 1000 with op := some o };
      s.Awake ∧ (s.seat.axis .long).op = some o ∧ o.source = .protect ∧ s.seat.motion.sequence = none) :=
  ⟨awake_and (by decide +kernel), awake_and (by decide +kernel), by decide +kernel, awake_and (by decide +kernel)⟩

theorem witness_QueriesChangeNothing :
    (calm).Awake ∧ Config.channelMap (calm).seat.variant .head = some 5 ∧ (calm).seat.variant ≠ 3 ∧
      heightStarts.grantOf (.axis .long) = some ⟨.axis .long, .p3, 50, .run⟩ ∧
      heightStarts.grantOf .pump = none ∧ heightStarts.entryOf .pump = some ⟨.pump, .p1, 40, 0⟩ ∧
      (calm).seat.alloc.grantOf .pump = none ∧ (calm).seat.alloc.entryOf .pump = none := awake_and (by decide +kernel)

/-! Chapter 10, switches -/

/-- A switch record. -/
def switched (p : SwitchPos) (f : SwitchRec → SwitchRec) (g : Work → Work := id) : State :=
  calm fun w => g (w.setSwitch p (f (w.switch p)))

theorem witness_ContactsAreDebounced :
    ((calm).Powered ∧ (calm).seat.power.sleepPending = false ∧ false = ((calm).seat.switch 5).contact ∧
      true ≠ ((calm).seat.switch 5).contact ∧ true ≠ ((calm).seat.switch 5).pressed) ∧
    (let s := switched 5 fun r => { r with contact := true, debounceAt := some 20000 };
      s.Awake ∧ false ≠ (s.seat.switch 5).contact ∧ false = (s.seat.switch 5).pressed ∧
        (s.seat.switch 5).debounceAt = some 20000 ∧ (s.seat.switch 5).atReset = false) ∧
    (let s := switched 14 fun r => { r with contact := true, debounceAt := some 20000 };
      s.Awake ∧ (s.seat.switch 14).contact = true ∧ (s.seat.switch 14).cond = .normal ∧ 14 ≤ (14 : SwitchPos).val) ∧
    (let s := switched 5 fun r => { r with contact := true, debounceAt := some 20000, atReset := true };
      s.Awake ∧ (s.seat.switch 5).contact = true ∧ (s.seat.switch 5).atReset = true) ∧
    (let s := switched 5 fun r => { r with pressed := true, debounceAt := some 20000 };
      s.Awake ∧ (s.seat.switch 5).contact = false ∧ (s.seat.switch 5).debounceAt = some 20000) ∧
    (let s := switched 14 fun r => { r with contact := true, pressed := true, repeatAt := some 500000, stuckAt := some 60000000 };
      s.Awake ∧ (s.seat.switch 14).repeatAt = some 500000 ∧ (s.seat.switch 14).pressed = true ∧
        (s.seat.switch 14).stuckAt = some 60000000) :=
  ⟨powered_and (by decide +kernel), awake_and (by decide +kernel), awake_and (by decide +kernel),
    awake_and (by decide +kernel), awake_and (by decide +kernel), awake_and (by decide +kernel)⟩

/-- TILT, the pair of positions 4 and 5, with the record of 5, of 4, and of the axis. -/
def tilting (closed delivered : Bool) (other : SwitchRec → SwitchRec) (r : AxisRec) (f : Work → Work := id) : State :=
  switched 5 (fun x => { x with contact := closed, pressed := !closed, delivered := delivered, debounceAt := some 20000 })
    fun w => f ((w.setSwitch 4 (other (w.switch 4))).setAxis .tilt r)

/-- A SWITCH JOG. -/
def jog (d : Dir) (st : OpState) : Op :=
  ⟨.switch, .jog, d, none, .normal, 0, false, st, 0, 0, none, false, false, false, true⟩

theorem witness_AxisSwitches :
    (let s := tilting true false id (rest 200);
      s.Awake ∧ (5 : SwitchPos).val < 14 ∧ Axis.tilt.index.val = (5 : SwitchPos).val / 2 ∧ partner 5 = 4 ∧
        (s.seat.switch 5).debounceAt = some 20000 ∧ (s.seat.switch 5).contact = true ∧
        (s.seat.switch 5).atReset = false ∧ (s.seat.switch 5).cond = .normal ∧ s.seat.conflict .tilt = false ∧
        (s.seat.switch 4).pressed = false ∧ s.seat.pcu.state ≠ .protecting ∧ s.seat.motion.sequence = none ∧
        (Config.channelMap s.seat.variant .tilt).isSome = true ∧ (s.seat.axis .tilt).op = none ∧
        (s.seat.axis .tilt).drive = .idle ∧ (s.seat.axis .tilt).referenced = true ∧ (s.seat.axis .tilt).braked = false) ∧
    (let s := tilting true false id (rest 200) fun w => w.setConflict .tilt true;
      s.Awake ∧ s.seat.conflict .tilt = true) ∧
    (let s := tilting true false (fun x => { x with pressed := true, delivered := true })
        { rest 200 with op := some (jog .low .waiting) };
      s.Awake ∧ (s.seat.switch 4).pressed = true ∧ (s.seat.switch 4).cond ≠ .heldAtReset ∧
        (s.seat.switch 4).delivered = true ∧ (s.seat.axis .tilt).op = some (jog .low .waiting)) ∧
    (∀ p ∈ [PcuState.protecting, .holding, .restoring, .postcrash],
      (tilting true false id (rest 200) fun w => { w with pcu := { w.pcu with state := p } }).seat.pcu.state = p) ∧
    (∀ k ∈ [SeqKind.recall, .easy, .restore, .home, .protect],
      (tilting true false id (rest 200) fun w => { w with motion := { w.motion with
        sequence := some ⟨k, 9, [⟨.long, .target, 9, .low, .active, true, false⟩]⟩ } }).seat.motion.sequence.map (·.kind)
        = some k) ∧
    (∀ r ∈ [{ rest 592 with drive := .fault }, rest 592, rest 591, { rest 200 with drive := .coasting },
        { rest 200 with drive := .braking }, { rest 200 with lastDir := .low },
        { rest 200 with op := some { jog .low .moving with source := .protect } }],
      (tilting true false id r).seat.axis .tilt = r) ∧
    (let s := tilting true false id (rest 200) fun w => w.setAxis .long (driven 1000);
      (s.seat.axis .long).op = some (operation .target .moving) ∧ (operation .target .moving).source = .service) ∧
    (let s := tilting true false id (rest 200) fun w =>
        { w with power := { w.power with config := { w.power.config with variant := 3 } } };
      Config.channelMap s.seat.variant .tilt = none) ∧
    (let s := tilting false true id { rest 200 with drive := .running, op := some (jog .high .moving) };
      s.Awake ∧ (s.seat.switch 5).contact = false ∧ (s.seat.switch 5).delivered = true ∧
        (s.seat.axis .tilt).op = some (jog .high .moving) ∧ (s.seat.axis .tilt).driving = true) ∧
    (let s := tilting false false id (rest 200); s.Awake ∧ (s.seat.switch 5).delivered = false) :=
  ⟨awake_and (by decide +kernel), awake_and (by decide +kernel), awake_and (by decide +kernel), by decide +kernel,
    by decide +kernel, by decide +kernel, by decide +kernel, by decide +kernel, awake_and (by decide +kernel),
    awake_and (by decide +kernel)⟩

/-- Levels at the ends of their ranges. -/
def levels (lu ll b : Nat) (p : PcuState) (w : Work) : Work :=
  { w with pneu := { w.pneu with lumbarUpper := lu, lumbarLower := ll, bolster := b }, pcu := { w.pcu with state := p } }

theorem witness_SupportLevelsByR115 :
    (∀ p ∈ [(14 : SwitchPos), 15, 16, 17, 18, 19],
      ∀ k ∈ [PcuState.normal, .protecting, .holding, .restoring, .postcrash], ∀ l ∈ [(0, 0), (10, 5)],
        let s := switched p (fun r => { r with contact := true, debounceAt := some 20000, repeatAt := some 500000 })
          (levels l.1 l.1 l.2 k);
        s.seat.band.isSome = true ∧ s.seat.power.mode ≠ .sleep ∧ s.seat.power.sleepPending = false ∧ 14 ≤ p.val ∧
          (s.seat.switch p).debounceAt.isSome = true ∧ (s.seat.switch p).repeatAt.isSome = true ∧
          (s.seat.switch p).contact = true ∧ (s.seat.switch p).cond = .normal ∧ (s.seat.switch p).atReset = false ∧
          s.seat.pneu.lumbarUpper ≤ 10 ∧ s.seat.pneu.lumbarLower ≤ 10 ∧ s.seat.pneu.bolster ≤ 5) := by decide +kernel

/-! Chapter 4 -/

/-- The calm part with its store changed. -/
def stored (f : Store → Store) (g : Work → Work := id) : State := calm fun w => g { w with store := f w.store }

/-- The store window is open. -/
def windowed (f : Work → Work := id) : State := stored (fun p => { p with storeWindow := some 5000000 }) f

theorem witness_ButtonStore :
    (∀ k : Fin 3, ∀ b ∈ [(0 : Byte), 1], let y : Byte := BitVec.ofNat 8 (2 ^ (k.val + 1)) ||| b;
      (∀ j : Fin 3, y.getLsbD (j.val + 1) = decide (j = k)) ∧ (y.getLsbD 0 = true ↔ b = 1)) ∧
    (∀ y ∈ [(6 : Byte), 15, 0], ∀ k : Fin 3, ¬∀ j : Fin 3, y.getLsbD (j.val + 1) = decide (j = k)) ∧
    (∀ held ∈ [true, false],
      let s := stored fun p => { p with buttons := ⟨held, false, true, false⟩, storeWindow := some 5000000 };
      s.seat.band.isSome = true ∧ s.seat.store.buttons.set = held ∧ s.seat.store.buttons.m3 = false ∧
        s.seat.store.storeWindow.isSome = true) ∧
    ((calm).Awake ∧ doorSide (2 : Byte).toNat ≠ some (calm).seat.power.side ∧ doorSide 0 = some (calm).seat.power.side ∧
      (1 : Byte).getLsbD 0 = true ∧ (1 : Byte).getLsbD 1 = false ∧ (calm).seat.store.buttons.set = false) ∧
    (windowed.Awake ∧ doorSide 0 = some windowed.seat.power.side ∧
      windowed.seat.store.buttons = ⟨false, false, false, false⟩ ∧ windowed.seat.store.storeWindow.isSome = true ∧
      windowed.seat.pcu.state = .normal ∧ windowed.seat.store.write = none ∧
      (∀ a ∈ Axis.all, (windowed.seat.axis a).op = none ∧ (windowed.seat.axis a).resting = true) ∧
      (Config.channelMap windowed.seat.variant .long).isSome = true ∧ (windowed.seat.axis .long).referenced = true) ∧
    ((windowed fun w => { w with pcu := { w.pcu with state := .holding } }).Awake ∧
      (windowed fun w => { w with pcu := { w.pcu with state := .holding } }).seat.pcu.state ≠ .normal) ∧
    ((windowed fun w => w.setAxis .thigh (driven 100)).Awake ∧
      ((windowed fun w => w.setAxis .thigh (driven 100)).seat.axis .thigh).op.isSome = true) :=
  ⟨by decide +kernel, by decide +kernel, by decide +kernel, awake_and (by decide +kernel),
    awake_and (by decide +kernel), awake_and (by decide +kernel), awake_and (by decide +kernel)⟩

/-- Slot B1 in a state, with its record. -/
def slotted (st : SlotState) (f : Work → Work := id) : State :=
  calm fun w => f { w with store := { w.store with
    slots := w.store.slots.set 0 ⟨st, (w.buildRecord 0 0 none none).withCheck, 1⟩ } }

/-- Slot B1 holds a record with the preferences `m` and `h`, while the sequencer stands in `st`. -/
def preferring (m h : Option (Nat × Nat)) (st : MassageState) : State :=
  calm fun w => { w with
    massage := { w.massage with state := st }
    store := { w.store with slots := w.store.slots.set 0 ⟨.valid, (w.buildRecord 0 0 m h).withCheck, 1⟩ } }

/-- A VALID slot whose record fails its check. -/
def garbled (i : Fin 7) (f : Work → Work := id) : State := calm fun w => f { w with store := { w.store with
  slots := w.store.slots.set i ⟨.valid, List.replicate 28 0, 1⟩ } }

theorem witness_RecallByR89 :
    (∀ st ∈ [SlotState.writing, .empty, .corrupt, .valid],
      (slotted st).seat.store.buttons = ⟨false, false, false, false⟩ ∧ (slotted st).seat.store.storeWindow = none ∧
        (slotted st).seat.motion.sequence = none ∧ ((slotted st).seat.slot 0).state = st ∧
        readPasses 1 ((slotted st).seat.slot 0).bytes = true ∧ (slotted st).seat.peers.vehicle.staleAt ≠ none ∧
        ∃ v ∈ (slotted st).seat.peers.vehicle.fields.speed, v ≤ 5) ∧
    ((slotted .valid).Awake ∧ doorSide 0 = some (slotted .valid).seat.power.side) ∧
    ((slotted .valid fun w => { w with pcu := { w.pcu with state := .postcrash } }).Awake ∧
      (slotted .valid fun w => { w with pcu := { w.pcu with state := .postcrash } }).seat.pcu.state = .postcrash) ∧
    ((slotted .valid fun w => { w with peers := { w.peers with vehicle := VehicleRec.stale } }).Awake ∧
      (slotted .valid fun w => { w with peers := { w.peers with vehicle := VehicleRec.stale } }).seat.peers.vehicle.staleAt
        = none) ∧
    (∀ m ∈ [none, some (2, 4)], ∀ h ∈ [none, some (3, 0)], ∀ st ∈ [MassageState.off, .running, .paused, .venting],
      let s := preferring m h st;
      readPasses 1 (s.seat.slot 0).bytes = true ∧ (s.seat.slot 0).state = .valid ∧
        (Profile.ofBytes (s.seat.slot 0).bytes).massage = m ∧ (Profile.ofBytes (s.seat.slot 0).bytes).heat = h ∧
        s.seat.massage.state = st ∧ s.seat.pcu.state = .normal ∧ s.seat.ignition ≠ .off ∧ s.seat.variant ≠ 3 ∧
        s.seat.shedComfort = false) ∧
    (∀ q ∈ [(⟨.recall, 1, []⟩ : Machine.Sequence), ⟨.recall, 2, []⟩, ⟨.easy, 0, []⟩, ⟨.restore, 0, []⟩, ⟨.home, 9, []⟩,
        ⟨.protect, 0, []⟩],
      let s := slotted .valid fun w => { w with motion := { w.motion with sequence := some q } };
      s.seat.band.isSome = true ∧ s.seat.motion.sequence = some q ∧ (s.seat.slot 0).state = .valid ∧
        s.seat.store.buttons = ⟨false, false, false, false⟩ ∧ s.seat.store.storeWindow = none) ∧
    (∀ k ∈ [(0 : Fin 3), 1, 2], let i : Fin 7 := ⟨k.val, by omega⟩;
      let s := stored fun p => { p with slots := p.slots.set i.val ⟨.valid, ((calm).seat.buildRecord i 0 none none).withCheck, 1⟩ };
      s.seat.band.isSome = true ∧ (s.seat.slot i).state = .valid ∧ readPasses (k.val + 1) (s.seat.slot i).bytes = true ∧
        [s.seat.store.buttons.m1, s.seat.store.buttons.m2, s.seat.store.buttons.m3][k.val]? = some false ∧
        s.seat.store.storeWindow = none) ∧
    ((garbled 0).Awake ∧ ((garbled 0).seat.slot 0).state = .valid ∧ readPasses 1 ((garbled 0).seat.slot 0).bytes = false) :=
  ⟨by decide +kernel, awake_and (by decide +kernel), awake_and (by decide +kernel), awake_and (by decide +kernel),
    by decide +kernel, by decide +kernel, by decide +kernel, awake_and (by decide +kernel)⟩

theorem witness_StoreTimers :
    (let s := stored fun p => { p with
        storeWindow := some 5000000, keyWindow := some ⟨0, 30000000⟩, assembly := some ⟨2, 1, [], 1000000⟩
        write := some ⟨2, .erase, [], 25000⟩ };
      s.Powered ∧ s.seat.power.sleepPending = false ∧ s.seat.store.storeWindow = some 5000000 ∧
        s.seat.store.keyWindow = some ⟨0, 30000000⟩ ∧ s.seat.store.assembly = some ⟨2, 1, [], 1000000⟩ ∧
        s.seat.store.write = some ⟨2, .erase, [], 25000⟩) := powered_and (by decide +kernel)

/-- The ignition is OFF. -/
def parked : State := calm fun w => { w with
  peers := { w.peers with vehicle := ⟨⟨.off, some 0, false, false⟩, some 500000⟩ }, power := { w.power with mode := .runOn } }

theorem witness_KeyEvents :
    (parked.Awake ∧ (3 : Byte).toNat < 4 ∧ parked.seat.ignition = .off ∧ parked.seat.pcu.state = .normal ∧
      parked.seat.motionQuiet = true ∧ parked.seat.store.write = none) ∧
    (let s := { parked with seat := { parked.seat with store := { parked.seat.store with
        write := some ⟨2, .erase, [], 25000⟩ } } };
      s.Awake ∧ s.seat.ignition = .off ∧ s.seat.pcu.state = .normal ∧ s.seat.motionQuiet = true ∧
        s.seat.store.write.isSome = true) ∧
    (let s := { parked with seat := { parked.seat with motion := (holding .recall).seat.motion } };
      s.Awake ∧ s.seat.ignition = .off ∧ s.seat.pcu.state = .normal ∧ s.seat.motionQuiet = false) ∧
    ((calm).Awake ∧ (calm).seat.ignition ≠ .off ∧ 4 ≤ (4 : Byte).toNat ∧ (0 : Byte) ≠ 1 ∧ (0 : Byte) ≠ 2) :=
  ⟨awake_and (by decide +kernel), awake_and (by decide +kernel), awake_and (by decide +kernel),
    awake_and (by decide +kernel)⟩

theorem witness_VehicleAndStaleness :
    (let s := calm fun w => { w with
        peers := { w.peers with memoryKeysUntil := some 1000000, comfort := ⟨none, some 2000000⟩ } };
      s.Awake ∧ s.seat.peers.vehicle.staleAt = some 500000 ∧ s.seat.peers.memoryKeysUntil = some 1000000 ∧
        s.seat.peers.comfort.staleAt = some 2000000 ∧ s.seat.ignition ≠ .off) ∧
    (parked.Awake ∧ parked.seat.ignition = .off) ∧
    (∀ k ∈ [SeqKind.recall, .easy], (holding k).seat.motion.sequence.map (·.kind) = some k ∧
      (holding k).seat.peers.vehicle.staleAt = some 500000 ∧ 5 < (6 : Byte).toNat ∧ 5 < (255 : Byte).toNat) ∧
    ((holding .recall).Awake ∧ True) :=
  ⟨awake_and (by decide +kernel), awake_and (by decide +kernel), by decide +kernel, awake_and (by decide +kernel)⟩

/-- The car with its ignition, the mask, whether easy exit is armed, a return point, LONG, and the pre-crash state. -/
def exiting (on mask armed : Bool) (rp : Option Int) (r : AxisRec) (p : PcuState := .normal) : State := calm fun w =>
  { w.setAxis .long r with
    peers := { w.peers with vehicle := ⟨⟨if on then .acc else .off, some 0, false, false⟩, some 500000⟩ }
    store := { w.store with mask := mask, armed := armed, returnPoint := rp }, pcu := { w.pcu with state := p }
    power := { w.power with mode := if on then .active else .runOn } }

/-- Key 1 has unlocked; its slot is K2. -/
def unlocked (st : SlotState) (mask : Bool) (p : PcuState) : State :=
  let s := exiting false mask true none (rest 1450) p
  { s with seat := { s.seat with store := { s.seat.store with
    keyWindow := some ⟨1, 30000000⟩
    slots := s.seat.store.slots.set 4 ⟨st, (s.seat.buildRecord 4 1 none none).withCheck, 5⟩ } } }

theorem witness_EasyExitEntry :
    (∀ on ∈ [true, false], ∀ mask ∈ [true, false], ∀ armed ∈ [true, false], ∀ rp ∈ [none, some 700],
      ∀ p ∈ [PcuState.normal, .protecting, .postcrash],
      let s := exiting on mask armed rp (rest 1450) p;
      s.seat.band.isSome = true ∧ s.seat.power.mode ≠ .sleep ∧ s.seat.power.sleepPending = false ∧
        s.seat.store.keyWindow = none ∧ s.seat.motion.sequence = none ∧ s.seat.power.side = .left ∧
        ((1 : Byte).getLsbD 0 && !s.seat.peers.vehicle.fields.leftOpen) = true ∧
        ((0 : Byte).getLsbD 0 && !s.seat.peers.vehicle.fields.leftOpen) = false ∧
        (s.seat.ignition = .off ↔ on = false) ∧ s.seat.store.mask = mask ∧ s.seat.store.armed = armed ∧
        s.seat.store.returnPoint = rp ∧ s.seat.pcu.state = p ∧
        (Config.channelMap s.seat.variant .long).isSome = true ∧ (s.seat.axis .long).referenced = true ∧
        (s.seat.axis .long).op = none ∧ (s.seat.axis .long).drive ≠ .fault ∧ (s.seat.axis .long).pendingFault = false) ∧
    (∀ on ∈ [true, false], ∀ q ∈ [(⟨.recall, 2, [⟨.long, .target, 40, .low, .active, true, false⟩]⟩ : Machine.Sequence),
        ⟨.easy, 0, []⟩, ⟨.restore, 0, []⟩, ⟨.home, 9, []⟩, ⟨.protect, 0, []⟩],
      let s := exiting on false true (some 700) (rest 1450);
      let s : State := { s with seat := { s.seat with motion := { s.seat.motion with sequence := some q } } };
      s.seat.band.isSome = true ∧ s.seat.store.keyWindow = none ∧ s.seat.motion.sequence = some q ∧
        (q.kind = .recall → Axis.long ∈ q.activeAxes) ∧ s.seat.peers.vehicle.staleAt = some 500000) ∧
    ((exiting false false true none { rest 10 with referenced := false }).Awake ∧
      ((exiting false false true none { rest 10 with referenced := false }).seat.axis .long).referenced = false ∧
      (6 : Byte) ≠ 0 ∧ 5 < (6 : Byte).toNat) ∧
    (∀ st ∈ [SlotState.writing, .empty, .corrupt, .valid], ∀ mask ∈ [true, false],
      ∀ p ∈ [PcuState.normal, .protecting, .postcrash], let s := unlocked st mask p;
      s.seat.band.isSome = true ∧ s.seat.power.mode ≠ .sleep ∧ s.seat.power.sleepPending = false ∧
        s.seat.store.keyWindow = some ⟨1, 30000000⟩ ∧ s.seat.motion.sequence = none ∧ s.seat.store.returnPoint = none ∧
        ((1 : Byte).getLsbD 0 && !s.seat.peers.vehicle.fields.leftOpen) = true ∧ s.seat.power.side = .left ∧
        s.seat.store.mask = mask ∧ s.seat.pcu.state = p ∧ (s.seat.slot 4).state = st ∧
        readPasses 5 (s.seat.slot 4).bytes = true) ∧
    (let s := garbled 4 fun w => { w with store := { w.store with keyWindow := some ⟨1, 30000000⟩, mask := false } };
      s.Awake ∧ s.seat.store.keyWindow = some ⟨1, 30000000⟩ ∧ s.seat.motion.sequence = none ∧
        s.seat.store.returnPoint = none ∧ (s.seat.slot 4).state = .valid ∧ readPasses 5 (s.seat.slot 4).bytes = false) :=
  ⟨by decide +kernel, by decide +kernel, awake_and (by decide +kernel), by decide +kernel, awake_and (by decide +kernel)⟩

/-- A record of the calm part, and an assembly of it that awaits frame `n`. -/
def record : List Byte := ((calm).seat.buildRecord 2 0 none none).withCheck
def assembling (n : Nat) : State := stored fun p => { p with assembly := some ⟨2, n, record.take (7 * n), 1000000⟩ }

theorem witness_SlotRequests :
    ((calm).Awake ∧ (0 : Byte).toNat = 0 ∧ 7 < (8 : Byte).toNat ∧ (calm).seat.store.exporting = none ∧
      ((calm).seat.slot 6).state = .empty ∧ (calm).seat.store.write = none) ∧
    (∀ st ∈ [SlotState.writing, .corrupt, .valid], ((slotted st).seat.slot 0).state = st ∧
      readPasses 1 ((slotted st).seat.slot 0).bytes = true) ∧
    (let s := stored fun p => { p with exporting := some ⟨[], 0⟩, write := some ⟨2, .erase, [], 25000⟩ };
      s.Awake ∧ s.seat.store.exporting.isSome = true ∧ s.seat.store.write.isSome = true) ∧
    ((calm).Awake ∧ (calm).seat.store.assembly = none) ∧
    (∀ n ∈ [0, 1, 2, 3], (assembling n).seat.store.assembly = some ⟨2, n, record.take (7 * n), 1000000⟩) ∧
    ((assembling 3).Awake ∧ (2 : Byte).toNat ≠ 3 ∧ record.length = 28 ∧
      crc16 (record.take 26) = storedCheck record ∧ (Profile.ofBytes record).inRange = true ∧
      (assembling 3).seat.store.write = none) ∧
    ((garbled 0).Awake ∧ (garbled 0).seat.store.exporting = none ∧ ((garbled 0).seat.slot 0).state = .valid ∧
      readPasses 1 ((garbled 0).seat.slot 0).bytes = false) ∧
    (crc16 ((record.set 27 (record.getD 27 0 + 1)).take 26) ≠ storedCheck (record.set 27 (record.getD 27 0 + 1)) ∧
      (let b := record.take 20 ++ [11] ++ (record.drop 21).take 5;
        crc16 b = storedCheck (b ++ twoBytes (crc16 b)) ∧ (Profile.ofBytes (b ++ twoBytes (crc16 b))).inRange = false) ∧
      (stored fun p => { p with assembly := some ⟨2, 3, record.take 21, 1000000⟩
                                write := some ⟨2, .erase, [], 25000⟩ }).seat.store.write.isSome = true) :=
  ⟨awake_and (by decide +kernel), by decide +kernel, awake_and (by decide +kernel),
    awake_and (by decide +kernel), by decide +kernel, awake_and (by decide +kernel), awake_and (by decide +kernel),
    by decide +kernel⟩

/-! Chapter 5 -/

/-- A FILL that pumps. -/
def pumping (cls : AirClass) (cells : List CellIx) (confirmed : Bool) : State := calm fun w => { w with
  pneu := { w.pneu with manifold := .pumping { Fill.make cls cells 25 1500 with confirmed := confirmed } }
  alloc := { w.alloc with grants := [⟨.pump, cls.claimClass, 40, .start⟩] } }

def fillOf (cls : AirClass) (cells : List CellIx) (confirmed : Bool) : Fill :=
  { Fill.make cls cells 25 1500 with confirmed := confirmed }

/-- The manifold in a state, with the pump's claim where that state has it. -/
def airy (m : Manifold) : State := calm fun w => { w with
  pneu := { w.pneu with manifold := m }
  alloc := match m with
    | .pumping f => { w.alloc with grants := [⟨.pump, f.cls.claimClass, 40, .start⟩] }
    | .fillWait f => { w.alloc with queue := [⟨.pump, f.cls.claimClass, 40, 0⟩] }
    | .idle | .measuring _ _ => w.alloc }

theorem witness_ReadingEndsFill :
    ((calm).Powered ∧ (calm).seat.power.sleepPending = false ∧ (calm).seat.pneu.manifold = .idle) ∧
    (∀ b ∈ [true, false],
      (pumping .support [8] b).seat.pneu.manifold = .pumping (fillOf .support [8] b) ∧ (fillOf .support [8] b).confirmed = b ∧
        (fillOf .support [8] b).target ≤ 25 ∧ 50 ≤ 50 ∧ 24 < (fillOf .support [8] b).target) ∧
    ((pumping .support [8] true).Powered ∧ True) ∧
    (∀ b ∈ [true, false], ∀ x ∈ [none, some 20],
      let w := Work.start (calm fun w => { w with
        alloc := { w.alloc with grants := [⟨.pump, .p2, 40, .start⟩] }
        pneu := { w.pneu with manifold := .fillWait (fillOf .support [8] b)
                              cells := w.pneu.cells.set 8 ⟨.holding, x, 0, none, false, none, none⟩ } }).seat;
      w.pneu.manifold = .fillWait (fillOf .support [8] b) ∧ w.alloc.holds .pump = true ∧
        (fillOf .support [8] b).cells ≠ [] ∧ (w.cell 8).last = x ∧ (w.cell 8).state ≠ .venting) ∧
    (∀ f ∈ [fillOf .massage [0, 1] true, fillOf .support [8] false],
      let w := Work.start (airy (.pumping f)).seat;
      w.pneu.manifold = .pumping f ∧ w.alloc.grantOf .pump = some ⟨.pump, f.cls.claimClass, 40, .start⟩ ∧
        w.pneu.queue = [] ∧ ∀ c ∈ f.cells, c.val < 10) ∧
    (let w := Work.start (airy (.pumping (fillOf .support [8] true))).seat; w.alloc.Sound w.loadCeiling) ∧
    (let f := fillOf .support [8] true; let w := Work.start (airy (.fillWait f)).seat;
      w.pneu.manifold = .fillWait f ∧ w.alloc.grantOf .pump = none ∧
        w.alloc.entryOf .pump = some ⟨.pump, f.cls.claimClass, 40, 0⟩ ∧ f.cls ≠ .massage) ∧
    ((airy (.measuring 8 80000)).seat.pneu.manifold = .measuring 8 80000 ∧ (airy .idle).seat.pneu.manifold = .idle ∧
      (airy (.fillWait Fill.protect)).seat.pneu.manifold.active = some (.fill Fill.protect)) :=
  ⟨powered_and (by decide +kernel), by decide +kernel, powered_and (by decide +kernel), by decide +kernel, by decide +kernel,
    ⟨by decide +kernel, by decide +kernel, by decide +kernel, by decide +kernel, by decide +kernel⟩, by decide +kernel,
    by decide +kernel⟩

theorem witness_PumpNoPressureByR108 :
    ((pumping .massage [0, 1] false).Powered ∧
      (pumping .massage [0, 1] false).seat.pneu.manifold = .pumping (fillOf .massage [0, 1] false) ∧
      (fillOf .massage [0, 1] false).confirmed = false) ∧
    ((pumping .support [8] false).Powered ∧ (fillOf .support [8] false).cls = .support ∧
      (8 : CellIx) ∈ (fillOf .support [8] false).cells) ∧
    (FaultTable.reset.isLive ⟨.pumpNoPressure, 0⟩ = false) ∧
    (let w := Work.start (calm fun w => { w with faults := w.faults.latch ⟨.pumpNoPressure, 0⟩ }).seat;
      w.pneu.manifold = .idle ∧ w.faults.isLatched ⟨.pumpNoPressure, 0⟩ = true) ∧ Fill.protect.cls ≠ .massage :=
  ⟨powered_and (by decide +kernel), powered_and (by decide +kernel), by decide +kernel, by decide +kernel, by decide +kernel⟩

/-- A cell at pressure 0 under adjustment. -/
def adjusting (c : CellIx) (a : Adjustment) (h : BolsterHold) : Work :=
  let w := Work.start (calm).seat
  let w := w.setCell c { w.cell c with adj := some a, last := some 0 }
  { w with pneu := { w.pneu with hold := h } }

theorem witness_CellTimers :
    (let s := calm fun w => { w with pneu := { w.pneu with manifold := .measuring 9 80000 } };
      s.Powered ∧ s.seat.pneu.manifold = .measuring 9 80000) ∧
    (∀ b ∈ [true, false],
      let s := calm fun w => w.setCell 9 { w.cell 9 with state := .venting, ventEnd := some 100000, ventFull := b };
      s.seat.band.isSome = true ∧ (s.seat.cell 9).ventEnd = some 100000 ∧ (s.seat.cell 9).ventFull = b) ∧
    (∀ l ∈ [0, 1],
      let s := calm fun w => { w.setCell 8 { w.cell 8 with leakAt := some 60000000 } with
        pneu := { (w.setCell 8 { w.cell 8 with leakAt := some 60000000 }).pneu with lumbarUpper := l } };
      s.seat.band.isSome = true ∧ 8 ≤ (8 : CellIx).val ∧ (s.seat.cell 8).leakAt = some 60000000 ∧ (s.seat.cell 8).adj = none ∧
        s.seat.pneu.hold = .none ∧ (4 * s.seat.pneu.lumbarUpper = 0 ↔ l = 0) ∧ (s.seat.cell 8).state = .vented) ∧
    (∀ n ∈ [3, 4], ∀ ph ∈ [AdjPhase.measure, .fill, .vent], ∀ x ∈ [0, 20], ∀ h ∈ [BolsterHold.none, .protect],
      let w := adjusting 10 ⟨x, n, ph, .level⟩ h;
      (w.cell 10).adj = some ⟨x, n, ph, .level⟩ ∧ w.pneu.hold = h ∧ 10 ≤ (10 : CellIx).val ∧ (w.cell 10).last = some 0) ∧
    (∀ p ∈ [18, 22], 20 ≤ p + 2 ∧ p ≤ 20 + 2) ∧ (∀ p ∈ [17, 23], ¬(20 ≤ p + 2 ∧ p ≤ 20 + 2)) ∧
    (∀ d : CellIx, 8 ≤ d.val → d ≠ 10 → ((adjusting 10 ⟨20, 3, .measure, .leak⟩ .none).cell d).adj = none) ∧
    (adjusting 10 ⟨20, 3, .measure, .leak⟩ .none).pneu.levelEnded = false :=
  ⟨powered_and (by decide +kernel), by decide +kernel, by decide +kernel, by decide +kernel, by decide +kernel,
    by decide +kernel, by decide +kernel, by decide +kernel⟩

/-! Chapter 6 -/

theorem witness_ComfortFrames :
    ((calm).Awake ∧ (calm).seat.massage.baseline = none ∧ (calm).seat.heat.baseline = none) ∧
    ((session 0 3).Awake ∧ (session 0 3).seat.massage.baseline = some (true, 0, 3)) ∧
    ((session 7 2 fun m => { m with watch := some 3000000 }).Awake ∧ (session 7 2).seat.massage.state = .running ∧
      (session 7 2).seat.massage.program = 7 ∧ (session 7 2).seat.massage.queue.length < 8) ∧
    ((session 7 2 fun m => { m with queue := List.replicate 8 ⟨[], [], 100, 0⟩ }).Awake ∧
      ¬((session 7 2 fun m => { m with queue := List.replicate 8 ⟨[], [], 100, 0⟩ }).seat.massage.queue.length < 8)) :=
  ⟨awake_and (by decide +kernel), awake_and (by decide +kernel), awake_and (by decide +kernel),
    awake_and (by decide +kernel)⟩

/-- The sequencer in `st` with its causes, the step ended or in phase `ph`, and the last request. -/
def paused (st : MassageState) (pump shed protect ended : Bool) (ph : StepPhase) (on : Bool) (p : Nat) : State :=
  session 0 3 fun m => { m with
    state := st, byPump := pump, byShed := shed, byProtect := protect, stepEnded := ended, baseline := some (on, p, 3)
    step := some { Step.make (some 0) [0, 1] [6, 7] 1200 25 with phase := ph } }

theorem witness_SessionEdges :
    (∀ st ∈ [MassageState.off, .running, .paused, .venting], ∀ on ∈ [true, false], ∀ p ∈ [0, 2, 7],
      let s := paused st false false false false .hold on p;
      s.seat.band.isSome = true ∧ s.seat.power.mode ≠ .sleep ∧ s.seat.power.sleepPending = false ∧
        s.seat.massage.baseline = some (on, p, 3) ∧ 3 = (3 : Byte).toNat ∧ s.seat.massage.state = st ∧
        s.seat.massage.program ≤ 4 ∧ s.seat.variant ≠ 3 ∧ s.seat.ignition ≠ .off ∧ s.seat.pcu.state = .normal ∧
        s.seat.shedComfort = false ∧ (7 : Byte).toNat = 7 ∧ 4 < (5 : Byte).toNat ∧ (5 : Byte).toNat ≠ 7) ∧
    (let s := session 7 3 fun m => { m with state := .off, baseline := some (false, 7, 3), queue := [⟨[0], [1], 300, 50⟩] };
      s.Awake ∧ s.seat.massage.program = 7 ∧ s.seat.massage.queue.head? = some ⟨[0], [1], 300, 50⟩ ∧
        s.seat.massage.state = .off ∧ s.seat.massage.baseline = some (false, 7, 3)) ∧
    (let s := calm fun w => { w with power := { w.power with config := { w.power.config with variant := 3 } } };
      s.Awake ∧ s.seat.variant = 3) ∧ parked.seat.ignition = .off ∧
    ((calm fun w => { w with peers := { w.peers with energy := ⟨.unlimited, true, some 9⟩ } }).seat.shedComfort = true) ∧
    (∀ pump ∈ [true, false], ∀ shed ∈ [true, false], ∀ protect ∈ [true, false], ∀ e ∈ [true, false],
      let s := paused .paused pump shed protect e .fill true 0;
      (s.seat.massage.byPump, s.seat.massage.byShed, s.seat.massage.byProtect) = (pump, shed, protect) ∧
        s.seat.massage.stepEnded = e ∧ s.seat.massage.pendingProgram = none ∧
        (s.seat.massage.step.bind (·.index)) = some 0 ∧ s.seat.massage.step.map (·.phase) = some .fill) :=
  ⟨by decide +kernel, awake_and (by decide +kernel), awake_and (by decide +kernel), by decide +kernel,
    by decide +kernel, by decide +kernel⟩

theorem witness_IntensityByR127 :
    (Work.start (session 0 3).seat).massage.intensity = 3 ∧ (Work.start (session 0 3).seat).massage.state = .running ∧
      (Work.start (calm).seat).massage.state = .off ∧ (Config.programSteps 0)[0]?.isSome = true ∧
      (session 0 3).seat.massage.program ≠ 7 := by decide +kernel

theorem witness_StepsAndSessions :
    (∀ p ∈ [none, some 1],
      let s := session 0 3 fun m => { m with holdEnd := some 1800000, pendingProgram := p };
      s.seat.band.isSome = true ∧ s.seat.massage.holdEnd = some 1800000 ∧ s.seat.massage.state = .running ∧
        s.seat.massage.step.bind (·.index) = some 0 ∧ s.seat.massage.pendingProgram = p ∧ s.seat.massage.program ≤ 4) ∧
    (∀ p ∈ [none, some 7], ∀ q ∈ [[], [(⟨[], [1], 300, 50⟩ : StreamStep)], [⟨[0], [1], 300, 22⟩, ⟨[3], [], 100, 9⟩]],
      let s := session (if p = none then 7 else 0) 3 fun m => { m with
        holdEnd := some 1800000, pendingProgram := p, queue := q, step := some Step.holdStep };
      s.seat.band.isSome = true ∧ s.seat.massage.holdEnd = some 1800000 ∧ s.seat.massage.state = .running ∧
        s.seat.massage.step = some Step.holdStep ∧ s.seat.massage.pendingProgram = p ∧ s.seat.massage.queue = q ∧
        (p = none → s.seat.massage.program = 7)) ∧
    ((session 0 3).seat.massage.program ≠ 7 ∧ (Config.programSteps 0)[0]?.any (fun p => p.fill != []) = true) ∧
    (∀ st ∈ [MassageState.running, .paused], ∀ pump ∈ [true, false], ∀ shed ∈ [true, false], ∀ ph ∈ [StepPhase.fill, .hold],
      let m := (paused st pump shed false false ph true 0).seat.massage;
      m.state = st ∧ m.stepEnded = false ∧ m.step.map (·.phase) = some ph ∧ m.byPump = pump ∧ m.byShed = shed ∧
        m.byProtect = false) ∧
    (∀ st ∈ [MassageState.running, .paused],
      let s := session 7 2 fun m => { m with state := st, watch := some 3460000 };
      s.seat.band.isSome = true ∧ s.seat.massage.state = st ∧ s.seat.massage.sessionEnd = some 900000000 ∧
        s.seat.massage.watch = some 3460000 ∧ s.seat.variant ≠ 3) ∧
    (let s := session 7 2 fun m => { m with state := .venting, ventingEnd := some 1500000 };
      s.Powered ∧ s.seat.power.sleepPending = false ∧ s.seat.massage.ventingEnd = some 1500000) :=
  ⟨by decide +kernel, by decide +kernel, by decide +kernel, by decide +kernel, by decide +kernel, powered_and (by decide +kernel)⟩

/-! Chapter 7 -/

/-- The cushion zone changed. -/
def zoned (f : ZoneRec → ZoneRec) : State := calm fun w => w.setZone .cushion (f (w.zone .cushion))

theorem witness_MeasurementJudged :
    (4095 ≤ 4095 ∧ 39 < 40 ∧ 3160 ≤ 3160 ∧ 4094 < 4095 ∧ 40 ≤ 40 ∧ 56 < 57 ∧ 57 ≤ 57 ∧ 80 < 81 ∧ 1800 ≤ 1800 ∧ 3159 < 3160) ∧
    (∀ f ∈ [SensorFault.none, .opened, .short], ∀ n ∈ [0, 1, 2], ∀ c ∈ [true, false],
      let s := zoned fun r => { r with measuring := some 0, fault := f, validRun := n, cutoff := c };
      s.seat.band.isSome = true ∧ (s.seat.zone .cushion).measuring = some 0 ∧ (s.seat.zone .cushion).fault = f ∧
        (s.seat.zone .cushion).validRun = n ∧ (s.seat.zone .cushion).cutoff = c) ∧
    (calm).seat.trim .cushion = 0 ∧
    [4095, 39, 300, 117, 174].map convertCount = [.opened, .short, .temp 274, .temp 500, .temp 400] := by decide +kernel

theorem witness_EffectiveDutyBounded :
    (∀ l ∈ [1, 2, 3],
      let s := (zoned fun r => { r with level := l, t10 := some 300 }).seat
      (s.zone .cushion).fault = .none ∧ (s.zone .cushion).cutoff = false ∧ (s.zone .cushion).level = l ∧
        s.corrected .cushion = some 300 ∧ s.heatingPermitted = true) ∧
    ((zoned fun r => { r with fault := .opened }).seat.zone .cushion).fault ≠ .none ∧
      ((zoned fun r => { r with cutoff := true }).seat.zone .cushion).cutoff = true ∧
      ((calm).seat.zone .cushion).level = 0 ∧ ((calm).seat.zone .cushion).t10 = none ∧ parked.seat.ignition ≠ .run ∧
      (banded .low).seat.band ≠ some .normal ∧
      (let s := (zoned fun r => { r with level := 3, t10 := some 450, dutyReq := 0 }).seat
      (∀ z ∈ [Zone.cushion, .back], (s.zone z).dutyReq = s.dutyNeeded z) ∧ (s.zone .cushion).level = 3 ∧
        s.corrected .cushion = some 450) := by decide +kernel

theorem witness_HeaterIntervals :
    (let s := zoned fun r => { r with level := 3, stepDown := some 1200000000, measuring := some 0 };
      s.Powered ∧ s.seat.power.sleepPending = false ∧ s.seat.heat.intervalAt = some 0 ∧ s.seat.heat.periodAt = some 0 ∧
        (s.seat.zone .cushion).stepDown = some 1200000000 ∧ (s.seat.zone .cushion).measuring = some 0) ∧
    (let s := calm fun w =>
        let w := w.setZone .cushion { w.zone .cushion with level := 3, t10 := some 300, dutyReq := 100 };
        { w with
          heat := { w.heat with intervalAt := some 1000000 }
          alloc := { w.alloc with cushionClaim := 52, cushionGrant := 52 } };
      s.seat.heat.periodAt = some 0 ∧ s.seat.heat.driven = false ∧ s.seat.power.window.isSome = true ∧
        (after s .heaterPwmPeriod).seat.heaterOutput .cushion = true) := ⟨powered_and (by decide +kernel), by decide +kernel⟩

/-- A zone's level and held level, and the last heat fields of COMFORT_REQUEST. -/
def asked (l : Nat) (h : Option Nat) (st : PcuState := .normal) (ign : Ignition := .run) : State := calm fun w => { w with
  heat := { w.heat with baseline := some (0, 1), cushion := { w.heat.cushion with level := l, held := h } }
  pcu := { w.pcu with state := st }
  peers := { w.peers with vehicle := ⟨⟨ign, some 0, false, false⟩, some 500000⟩ } }

theorem witness_LevelRequests :
    (∀ l ∈ [0, 2, 3], ∀ h ∈ [none, some 3], ∀ st ∈ [PcuState.normal, .postcrash], ∀ i ∈ [Ignition.off, .acc, .run],
      let s := asked l h st i;
      s.seat.band.isSome = true ∧ s.seat.power.mode ≠ .sleep ∧ s.seat.power.sleepPending = false ∧
        s.seat.heat.baseline = some (0, 1) ∧ (s.seat.zone .cushion).level = l ∧ (s.seat.zone .cushion).held = h ∧
        s.seat.pcu.state = st ∧ s.seat.ignition = i ∧ s.seat.store.keyWindow = none) := by decide +kernel

/-! Chapter 8 -/

/-- The pre-crash unit changed, the last counter 5. -/
def warned (st : PcuState) (f : Pcu → Pcu := id) (level : PrecrashLevel := .alert) : State := calm fun w => { w with
  pcu := f { w.pcu with state := st }
  peers := { w.peers with precrash := ⟨level, some 5, some 100000⟩ } }

theorem witness_PrecrashDelivered :
    ((warned .normal).Awake ∧ 2 < (3 : Byte).toNat ∧ (warned .normal).seat.peers.precrash.counter = some ((21 : Byte).toNat % 16)) ∧
    (∀ st ∈ [PcuState.normal, .protecting, .holding, .restoring, .postcrash], ∀ l ∈ [(0 : Byte), 1, 2],
      (warned st).seat.band.isSome = true ∧ (warned st).seat.pcu.state = st ∧ (PrecrashLevel.ofNat? l.toNat).isSome = true ∧
        (warned st).seat.peers.precrash.counter ≠ some ((6 : Byte).toNat % 16)) ∧
    ((warned .normal).seat.RestoreHeld ∧ (session 0 3).seat.massage.state = .running ∧
      (session 0 3).seat.massage.byProtect = false) :=
  ⟨awake_and (by decide +kernel), by decide +kernel, nofun, by decide +kernel⟩

theorem witness_PrecrashTimers :
    ((warned .protecting).Powered ∧ (warned .protecting).seat.peers.precrash.staleAt = some 100000 ∧
      (warned .protecting).seat.pcu.state = .protecting) ∧
    (∀ m ∈ [true, false], (warned .holding fun p => { p with holdEnd := some 2000000, protectMark := m }).seat.pcu.holdEnd
        = some 2000000 ∧
      (warned .holding fun p => { p with holdEnd := some 2000000, protectMark := m }).seat.pcu.protectMark = m) ∧
    ((warned .protecting).seat.ignition ≠ .off ∧
      (Work.start (warned .restoring fun p => { p with restoreMark := true }).seat).pcu.state = .restoring ∧
      (Work.start (warned .normal).seat).pcu.state ≠ .restoring ∧
      (∀ b ∈ [true, false], let w := Work.start (warned .holding fun p => { p with protectMark := true, holdExpired := b }).seat;
        w.pcu.state = .holding ∧ w.pcu.holdExpired = b)) ∧
    ((warned .postcrash id .crash).Awake ∧ (warned .postcrash id .crash).seat.peers.precrash.staleAt.isSome = true ∧
      (warned .postcrash id .crash).seat.peers.precrash.level = .crash) ∧
    ((warned .postcrash).Awake ∧ (warned .postcrash).seat.pcu.state = .postcrash ∧
      (warned .postcrash).seat.peers.precrash.level ≠ .crash) ∧
    ((warned .normal).Awake ∧ (warned .normal).seat.pcu.state ≠ .postcrash) ∧
    (∀ shed ∈ [true, false], let s := session 1 3 fun m => { m with
        state := .paused, byProtect := true, byShed := shed, stepEnded := true }
      let s : State := { s with seat := { s.seat with pcu := { s.seat.pcu with
        state := .holding, holdEnd := some 2000000, snapshot := some ⟨[], 0, .running, 0⟩ } } };
      s.seat.band.isSome = true ∧ s.seat.pcu.holdEnd = some 2000000 ∧ s.seat.pcu.protectMark = false ∧
        s.seat.massage.byPump = false ∧ s.seat.massage.byShed = shed ∧ s.seat.massage.byProtect = true) :=
  ⟨powered_and (by decide +kernel), by decide +kernel, by decide +kernel, awake_and (by decide +kernel),
    awake_and (by decide +kernel), awake_and (by decide +kernel), by decide +kernel⟩

/-! Chapters 9 and 10 -/

/-- A frame is loaded from a source, at a tally. -/
def loadedFrom (src : FrameSource) (tally : Nat) : State := { stored (fun p => { p with exporting := some ⟨record, 3⟩ }) with
  link := { Link.reset 0 with
    queue := [⟨.event .axisDone, List.replicate 9 0⟩], tally := tally, loaded := some ⟨src, 0x642, [], true⟩ } }

theorem witness_TransmitterByR180 :
    ((calm).link.loaded = none) ∧
    (∀ src ∈ [FrameSource.queue, .status, .exporting], ∀ n ∈ [247, 248],
      (loadedFrom src n).seat.band.isSome = true ∧ (loadedFrom src n).seat.power.sleepPending = false ∧
        (loadedFrom src n).link.loaded = some ⟨src, 0x642, [], true⟩ ∧ (loadedFrom src n).link.queue.length = 1 ∧
        (loadedFrom src n).seat.store.exporting = some ⟨record, 3⟩ ∧ (n + 8 < 256 ↔ n = 247) ∧
        (loadedFrom src n).link.tally = n) ∧
    ((loadedFrom .status 0).Powered ∧ (loadedFrom .status 0).link.statusAt = some 100000) ∧
    ({ calm with link := { Link.reset 0 with offUntil := some 500000 } } : State).link.offUntil = some 500000 :=
  ⟨by decide +kernel, by decide +kernel, powered_and (by decide +kernel), by decide +kernel⟩

theorem witness_ArbiterAndStatus :
    (∀ q ∈ [[], [(⟨.answer 1, [0]⟩ : Item)], [⟨.event .fault, [0]⟩]], ∀ due ∈ [true, false],
      ∀ e ∈ [none, some (⟨record, 3⟩ : Exporting)],
      let s := (calm fun w => { w with store := { w.store with exporting := e } }).seat
      let l := { Link.reset 0 with queue := q, statusDue := due };
      s.band.isSome = true ∧ s.power.mode ≠ .sleep ∧ l.offUntil = none ∧ l.loaded = none ∧ l.queue = q ∧
        l.statusDue = due ∧ s.store.exporting = e ∧ record.length = 28) ∧
    (1 < (⟨.answer 1, List.replicate 9 0⟩ : Item).segments ∧ (⟨.answer 1, List.replicate 9 0⟩ : Item).segments ≤ 15) ∧
    ((calm).seat.InRange ∧ (calm).seat.alloc.total ≤ 400 ∧ (calm).seat.alloc.queue.length ≤ 8 ∧
      (calm).seat.massage.program ≤ 7 ∧ (calm).seat.effectiveDuty .cushion ≤ 100 ∧
      (calm).seat.effectiveDuty .back ≤ 100) :=
  ⟨by decide +kernel, by decide +kernel, witness_StepKeepsRanges.1, by decide +kernel⟩

theorem witness_ClearFaultsByR42 :
    ((calm).Awake ∧ True) ∧
    (let s := coasting 1000 fun r => { r with pendingFault := true };
      s.Awake ∧ (s.seat.axis .long).drive = .coasting ∧ (s.seat.axis .long).phaseEnd = some 60000 ∧
        (s.seat.axis .long).pendingFault = true ∧ (s.seat.axis .long).op = none ∧ (s.seat.axis .long).order = none ∧
        (s.seat.axis .long).resetDeadband = false) ∧
    (let s := withAxis .long { rest 0 with drive := .fault };
      s.Awake ∧ (s.seat.axis .long).drive = .fault) :=
  ⟨awake_and (by decide +kernel), awake_and (by decide +kernel), awake_and (by decide +kernel)⟩

theorem witness_PowerTimers :
    (runningOn.Powered ∧ runningOn.seat.power.runOn = some 180000000 ∧ runningOn.seat.motionQuiet = true ∧
      runningOn.seat.store.write = none ∧ runningOn.seat.pcu.state = .normal ∧
      runningOn.seat.power.sleepPending = false ∧ runningOn.seat.power.window = some 10000000) ∧
    ((runningOn fun w => w.setAxis .long (driven 1000)).Powered ∧
      (runningOn fun w => w.setAxis .long (driven 1000)).seat.power.runOn = some 180000000 ∧
      (runningOn fun w => w.setAxis .long (driven 1000)).seat.motionQuiet = false) :=
  ⟨powered_and (by decide +kernel), powered_and (by decide +kernel)⟩

theorem witness_ConfigureByR199 :
    ((calm).Awake ∧ (calm).seat.power.window ≠ none ∧ (3 : Byte).toNat < 4 ∧ (249 : Byte).toInt = -7 ∧
      (7 : Byte).toInt = 7 ∧ (∀ a ∈ Axis.all, ((calm).seat.axis a).drive = .idle) ∧
      Config.channelMap (calm).seat.variant .long = Config.channelMap 3 .long ∧
      Config.channelMap (calm).seat.variant .thigh ≠ Config.channelMap 3 .thigh) ∧
    ((calm fun w => { w with power := { w.power with window := none } }).Awake ∧
      (calm fun w => { w with power := { w.power with window := none } }).seat.power.window = none) ∧
    ((withAxis .long (driven 1000)).Awake ∧ ((withAxis .long (driven 1000)).seat.axis .long).drive ≠ .idle) ∧
    ((calm).seat.motion.admission = [] ∧ (Config.channelMap (calm).seat.variant .thigh).isSome = true ∧
      ((withAxis .thigh { rest 0 with drive := .fault }).seat.axis .thigh).drive = .fault) :=
  ⟨awake_and (by decide +kernel), awake_and (by decide +kernel), awake_and (by decide +kernel),
    by decide +kernel⟩

theorem witness_RestartByR200 :
    ((warned .protecting).Awake ∧ (warned .protecting).seat.pcu.state = .protecting) ∧
    ((withAxis .long (driven 1000)).Awake ∧ (withAxis .long (driven 1000)).seat.pcu.state ≠ .protecting ∧
      (((withAxis .long (driven 1000)).seat.axis .long).op.map (·.member)) = some false) ∧
    ((holding .home).Awake ∧ (holding .home).seat.pcu.state ≠ .protecting ∧
      ((holding .home).seat.motion.sequence.map fun q => q.members.map (·.state)) = some [.active]) ∧
    ((switched 5 fun r => { r with contact := true, pressed := true }).Awake ∧
      ((switched 5 fun r => { r with contact := true, pressed := true }).seat.switch 5).pressed = true) ∧
    (let s := calm fun w => w.setCell 3 ⟨.venting, some 4, 0, some 1500000, true, none, none⟩;
      s.Awake ∧ (s.seat.cell 3).state = .venting ∧ s.seat.pneu.manifold = .idle) ∧
    (runningOn.Awake ∧ runningOn.seat.power.mode = .runOn) :=
  ⟨awake_and (by decide +kernel), awake_and (by decide +kernel), awake_and (by decide +kernel),
    awake_and (by decide +kernel), awake_and (by decide +kernel), awake_and (by decide +kernel)⟩

end Sys2Proof.Tests
end

section
/-!
PROOF. Classes order claims (R12): which grants an arrival may take, and when the heaters and the lower classes make room
for it (R13).
-/
namespace Sys2Proof.Machine

open Sys2Proof

/-! ### The grants an arrival may take -/

theorem Cls.p1_le_source (o : Source) : Cls.p1.rank ≤ o.cls.rank := by
  cases o <;> decide

theorem Cls.p1_le_claimClass (k : AirClass) : Cls.p1.rank ≤ k.claimClass.rank := by
  cases k <;> decide

theorem Grant.below_iff (p : Cls) (g : Grant) : g.below p = true ↔ g.cls.rank < p.rank := by
  simp [Grant.below]

theorem mem_motorsOf {k : Cls} {l : List Grant} {g : Grant} :
    g ∈ motorsOf k l ↔ g ∈ l ∧ g.cls = k ∧ g.load ≠ .pump := by
  simp [motorsOf]

theorem mem_pumpBelow {p : Cls} {l : List Grant} {g : Grant} :
    g ∈ pumpBelow p l ↔ g ∈ l ∧ g.load = .pump ∧ g.below p = true := by
  simp [pumpBelow]

/-- A class below another is one of the five that the order of R13 lists. -/
theorem Cls.mem_lower_iff (p k : Cls) :
    k ∈ ([.p0, .p1, .p2, .p3, .p4] : List Cls).filter (·.rank < p.rank) ↔ k.rank < p.rank := by
  cases k
  case p5 => cases p <;> decide
  all_goals simp

/-- An arrival takes from the grants of a lower class and from no others (R12). -/
theorem mem_arrivalVictims {p : Cls} {l : List Grant} {g : Grant} :
    g ∈ arrivalVictims p l ↔ g ∈ l ∧ g.below p = true := by
  simp only [arrivalVictims, List.mem_append, List.mem_flatMap, mem_pumpBelow, mem_motorsOf, Cls.mem_lower_iff,
    Grant.below_iff]
  constructor
  · rintro (⟨hg, -, hp⟩ | ⟨k, hk, hg, rfl, -⟩)
    · exact ⟨hg, hp⟩
    · exact ⟨hg, hk⟩
  · rintro ⟨hg, hp⟩
    by_cases hl : g.load = .pump
    · exact .inl ⟨hg, hl, hp⟩
    · exact .inr ⟨g.cls, hp, hg, rfl, hl⟩

theorem eq_of_load_eq_of_pairwise {l : List Grant} (h : l.Pairwise fun x y => x.load ≠ y.load) {g v : Grant}
    (hg : g ∈ l) (hv : v ∈ l) (hload : g.load = v.load) : g = v := by
  induction l with
  | nil => cases hg
  | cons x l ih =>
    obtain ⟨hx, hl⟩ := List.pairwise_cons.1 h
    rcases List.mem_cons.1 hg with rfl | hgl
    · rcases List.mem_cons.1 hv with rfl | hv
      · rfl
      · exact absurd hload (hx v hv)
    · rcases List.mem_cons.1 hv with rfl | hv
      · exact absurd hload.symm (hx g hgl)
      · exact ih hl hgl hv

/-- No two grants are of one claimant (R14). -/
theorem Alloc.Sound.eq_of_load_eq {al : Alloc} {ceiling : Nat} (hs : al.Sound ceiling) {g v : Grant}
    (hg : g ∈ al.grants) (hv : v ∈ al.grants) (h : g.load = v.load) : g = v :=
  eq_of_load_eq_of_pairwise (List.pairwise_map.1 (List.pairwise_append.1 hs.once).1) hg hv h

/-! ### How far the sum of grants falls -/

theorem grantSum_filter_mono {p q : Grant → Bool} {l : List Grant} (h : ∀ g ∈ l, p g = true → q g = true) :
    grantSum (l.filter p) ≤ grantSum (l.filter q) := by
  have hp : l.filter p = (l.filter q).filter p := by
    rw [List.filter_filter]
    exact List.filter_congr fun g hg => by cases hpg : p g <;> simp [hpg, h g hg]
  rw [hp]
  exact grantSum_filter_le p _

/-- Revoking stops at the limit, or it has taken every grant of the list's claimants (R13, R19). -/
theorem Allocating.revokeUntil_total_le (env : AllocEnv) (cause : RevokeCause) (limit : Nat) (victims : List Grant)
    (a : Allocating) :
    (a.revokeUntil env cause limit victims).total ≤ max limit (a.cushionGrant + a.backGrant +
      grantSum (a.grants.filter fun g => !(victims.map (·.load)).contains g.load)) := by
  induction victims generalizing a with
  | nil =>
    have hall : a.grants.filter (fun g => !(([] : List Grant).map (·.load)).contains g.load) = a.grants :=
      List.filter_eq_self.2 fun _ _ => rfl
    rw [hall]
    exact Nat.le_max_right ..
  | cons v rest ih =>
    by_cases hlim : a.total ≤ limit
    · exact Nat.le_trans (Nat.le_trans (a.revokeUntil_spec env cause limit (v :: rest)).1 hlim) (Nat.le_max_left ..)
    · have hstep : a.revokeUntil env cause limit (v :: rest) =
          (a.revoke env cause v).revokeUntil env cause limit rest := by
        unfold Allocating.revokeUntil
        rw [List.foldl_cons, if_neg hlim]
      have hspared : (a.revoke env cause v).grants.filter (fun g => !(rest.map (·.load)).contains g.load) =
          a.grants.filter fun g => !((v :: rest).map (·.load)).contains g.load := by
        rw [Allocating.revoke_grants, List.filter_filter]
        exact List.filter_congr fun g _ => by
          rw [List.map_cons, List.contains_cons, Bool.not_or, Bool.and_comm]; rfl
      have hrest := ih (a.revoke env cause v)
      rw [Allocating.revoke_cushion, Allocating.revoke_back, hspared] at hrest
      rw [hstep]
      exact hrest

/-! ### Making room for an arrival (R13, step 4) -/

/-- The allocator after an arrival took from the heaters and the lower classes what it needs (R13, step 4). -/
def Allocating.makeRoom (env : AllocEnv) (c : Claim) (a : Allocating) : Allocating :=
  (a.trimHeaters (env.ceiling - c.amount)).revokeUntil env .budget (env.ceiling - c.amount)
    (arrivalVictims c.cls a.grants)

/-- A grant whose class is not below the arrival's is not taken (R12). -/
theorem Allocating.mem_makeRoom {env : AllocEnv} {c : Claim} {a : Allocating} (hs : a.Sound env.ceiling) {g : Grant}
    (hg : g ∈ a.grants) (hc : c.cls.rank ≤ g.cls.rank) : g ∈ (a.makeRoom env c).grants := by
  refine ((a.trimHeaters _).revokeUntil_spec env .budget _ _).2 g hg fun v hv hload => ?_
  obtain ⟨hvg, hvp⟩ := mem_arrivalVictims.1 hv
  have hlt : g.cls.rank < c.cls.rank := by
    rw [hs.eq_of_load_eq hg hvg hload]
    exact (Grant.below_iff _ _).1 hvp
  omega

/-- A grant that outlasts the revocation of every victim is not of a lower class. -/
theorem grantSum_spared_le (p : Cls) (l : List Grant) :
    grantSum (l.filter fun g => !((arrivalVictims p l).map (·.load)).contains g.load) ≤
      grantSum (l.filter fun g => !g.below p) := by
  refine grantSum_filter_mono fun g hg hspared => ?_
  cases hbelow : g.below p with
  | false => rfl
  | true =>
    have hv : g.load ∈ (arrivalVictims p l).map (·.load) := List.mem_map_of_mem (mem_arrivalVictims.2 ⟨hg, hbelow⟩)
    rw [List.contains_iff_mem.2 hv] at hspared
    cases hspared

/-- Making room reaches the room asked for, or leaves no more than the grants that are not of a lower class. -/
theorem Allocating.makeRoom_total_le_max (env : AllocEnv) (c : Claim) (a : Allocating) :
    (a.makeRoom env c).total ≤
      max (env.ceiling - c.amount) (grantSum (a.grants.filter fun g => !g.below c.cls)) := by
  have htrim := a.trimHeaters_total (env.ceiling - c.amount)
  have hfall := ((a.trimHeaters (env.ceiling - c.amount)).revokeUntil_spec env .budget (env.ceiling - c.amount)
    (arrivalVictims c.cls a.grants)).1
  have hend := (a.trimHeaters (env.ceiling - c.amount)).revokeUntil_total_le env .budget (env.ceiling - c.amount)
    (arrivalVictims c.cls a.grants)
  have hspared := grantSum_spared_le c.cls a.grants
  unfold Allocating.makeRoom
  rw [htrim] at hfall
  simp only [Alloc.total, Allocating.trimHeaters_grants] at htrim hfall hend ⊢
  omega

/-- Where free and reclaimable current suffice, taking them makes room for the claim (R13, steps 3 and 4). -/
theorem Allocating.makeRoom_total_le {env : AllocEnv} {c : Claim} {a : Allocating} (hw : a.total ≤ env.ceiling)
    (hr : c.amount ≤ env.free a.toAlloc + a.reclaimable c.cls) :
    (a.makeRoom env c).total + c.amount ≤ env.ceiling := by
  have hmax := a.makeRoom_total_le_max env c
  have hsplit := grantSum_split (·.below c.cls) a.grants
  simp only [Alloc.reclaimable, AllocEnv.free] at hr
  have htotal : a.total = a.cushionGrant + a.backGrant + grantSum a.grants := rfl
  omega

/-! ### What a test of R13 can answer -/

/-- A granted claim found the current free, or made room for itself (R13, steps 2 and 4). -/
theorem Allocating.tryGrant_cases {env : AllocEnv} {c : Claim} {a b : Allocating} (h : a.tryGrant env c = some b) :
    env.permits c.cls = true ∧
      (a.total + c.amount ≤ env.ceiling ∧ b = a.give c ∨
        env.ceiling < a.total + c.amount ∧ c.amount ≤ env.free a.toAlloc + a.reclaimable c.cls ∧
          b = (a.makeRoom env c).give c) := by
  unfold Allocating.tryGrant at h
  split at h
  · cases h
  · next hp =>
    refine ⟨by simpa using hp, ?_⟩
    split at h
    · next hfit => exact .inl ⟨hfit, (Option.some.inj h).symm⟩
    · next hfit =>
      split at h
      · cases h
      · next hr =>
        dsimp only at h
        split at h
        · exact .inr ⟨by omega, by omega, (Option.some.inj h).symm⟩
        · cases h

/-- A claim is granted exactly where its class is permitted and free and reclaimable current suffice (R13). -/
theorem Allocating.tryGrant_isSome_iff {env : AllocEnv} {c : Claim} {a : Allocating} (hw : a.total ≤ env.ceiling) :
    (a.tryGrant env c).isSome = true ↔
      env.permits c.cls = true ∧ c.amount ≤ env.free a.toAlloc + a.reclaimable c.cls := by
  constructor
  · intro h
    obtain ⟨b, hb⟩ := Option.isSome_iff_exists.1 h
    obtain ⟨hp, ⟨hfit, -⟩ | ⟨-, hr, -⟩⟩ := Allocating.tryGrant_cases hb
    · refine ⟨hp, ?_⟩
      simp only [AllocEnv.free]
      omega
    · exact ⟨hp, hr⟩
  · rintro ⟨hp, hr⟩
    have hroom := Allocating.makeRoom_total_le hw hr
    unfold Allocating.makeRoom at hroom
    unfold Allocating.tryGrant
    by_cases hfit : a.total + c.amount ≤ env.ceiling
    · simp [hp, hfit]
    · simp [hp, hfit, hroom, Nat.not_lt.2 hr]

/-- An arrival takes from no grant of its own class or a higher one (R12). -/
theorem Allocating.mem_grants_of_tryGrant {env : AllocEnv} {c : Claim} {a b : Allocating} (hs : a.Sound env.ceiling)
    (h : a.tryGrant env c = some b) {g : Grant} (hg : g ∈ a.grants) (hc : c.cls.rank ≤ g.cls.rank) :
    g ∈ b.grants := by
  obtain ⟨-, ⟨-, rfl⟩ | ⟨-, -, rfl⟩⟩ := Allocating.tryGrant_cases h
  · exact List.mem_append_left _ hg
  · exact List.mem_append_left _ (Allocating.mem_makeRoom hs hg hc)

/-- Settles O18: an arrival's victims are exactly the grants below its class, and the trim of both heaters with the
revocation of all of them makes the room that R13 tests for. -/
theorem classesOrderClaims : Obligations.ClassesOrderClaims := by
  refine ⟨fun env c a b hs h g hg hc => Allocating.mem_grants_of_tryGrant hs h hg hc, Cls.p1_le_source,
    Cls.p1_le_claimClass, fun env c a hs hp hx => ?_, fun env c a hs hp hx => ?_⟩
  · refine (Allocating.tryGrant_isSome_iff hs.within).2 ⟨hp, ?_⟩
    simp only [AllocEnv.free, Alloc.reclaimable]
    omega
  · exact (Allocating.tryGrant_isSome_iff hs.within).2 ⟨hp, hx⟩

end Sys2Proof.Machine
end

section
/-!
PROOF. A FILL without flow fails, and what PUMP_NO_PRESSURE does (R108): what the end of a FILL leaves in the manifold,
the fault table and the notices, and which FILL the manifold serves after it took one.
-/
namespace Sys2Proof.Machine

open Sys2Proof

/-! ### Folds over the part inside a step -/

/-- What every turn of a fold keeps, the fold keeps. -/
theorem foldl_keeps {α β : Type} (read : Work → β) (f : Work → α → Work) (h : ∀ w x, read (f w x) = read w)
    (l : List α) (w : Work) : read (l.foldl f w) = read w := by
  induction l generalizing w with
  | nil => rfl
  | cons x l ih => rw [List.foldl_cons, ih, h]

theorem foldl_post {α : Type} (notice : α → Notice) (l : List α) (w : Work) :
    l.foldl (fun w x => w.post (notice x)) w = { w with inbox := w.inbox ++ l.map notice } := by
  induction l generalizing w with
  | nil => simp
  | cons x l ih => rw [List.foldl_cons, ih]; simp [Work.post]

/-! ### The end of a FILL (R107, R112) -/

/-- What the requester of a FILL is told at its end: nothing, each cell's adjustment, or the sequencer (R112). -/
def Fill.endNotices (f : Fill) (e : AirEnd) : List Notice :=
  match f.cls with
  | .protect => []
  | .support => f.cells.map fun c => .supportEnd c e
  | .massage => [.massageEnd e]

theorem Work.tellFillEnd_eq (w : Work) (f : Fill) (e : AirEnd) :
    w.tellFillEnd f e = { w with inbox := w.inbox ++ f.endNotices e } := by
  unfold Work.tellFillEnd Fill.endNotices
  cases f.cls with
  | protect => simp
  | support => exact foldl_post _ _ _
  | massage => rfl

@[simp] theorem Work.tellFillEnd_pneu (w : Work) (f : Fill) (e : AirEnd) : (w.tellFillEnd f e).pneu = w.pneu := by
  rw [Work.tellFillEnd_eq]

@[simp] theorem Work.tellFillEnd_alloc (w : Work) (f : Fill) (e : AirEnd) : (w.tellFillEnd f e).alloc = w.alloc := by
  rw [Work.tellFillEnd_eq]

@[simp] theorem Work.tellFillEnd_faults (w : Work) (f : Fill) (e : AirEnd) : (w.tellFillEnd f e).faults = w.faults := by
  rw [Work.tellFillEnd_eq]

@[simp] theorem Work.tellFillEnd_inbox (w : Work) (f : Fill) (e : AirEnd) :
    (w.tellFillEnd f e).inbox = w.inbox ++ f.endNotices e := by
  rw [Work.tellFillEnd_eq]

@[simp] theorem Work.tellActiveEnd_pneu (w : Work) (m : Manifold) (e : AirEnd) :
    (w.tellActiveEnd m e).pneu = w.pneu := by
  cases m <;> simp [Work.tellActiveEnd]

@[simp] theorem Work.tellActiveEnd_faults (w : Work) (m : Manifold) (e : AirEnd) :
    (w.tellActiveEnd m e).faults = w.faults := by
  cases m <;> simp [Work.tellActiveEnd]

@[simp] theorem Work.closeCells_manifold (w : Work) (cells : List CellIx) (reading : Nat) :
    (w.closeCells cells reading).pneu.manifold = w.pneu.manifold := by
  refine foldl_keeps (fun w => w.pneu.manifold) _ (fun _ _ => ?_) cells w
  rfl

@[simp] theorem Work.closeCells_faults (w : Work) (cells : List CellIx) (reading : Nat) :
    (w.closeCells cells reading).faults = w.faults := by
  refine foldl_keeps (fun w => w.faults) _ (fun _ _ => ?_) cells w
  rfl

@[simp] theorem Work.leaveManifold_manifold (w : Work) : w.leaveManifold.pneu.manifold = .idle := by
  unfold Work.leaveManifold
  dsimp only
  split <;> simp

@[simp] theorem Work.leaveManifold_faults (w : Work) : w.leaveManifold.faults = w.faults := by
  unfold Work.leaveManifold
  dsimp only
  split <;> simp

@[simp] theorem Work.endActive_manifold (w : Work) (e : AirEnd) : (w.endActive e).pneu.manifold = .idle := by
  simp [Work.endActive]

@[simp] theorem Work.endActive_faults (w : Work) (e : AirEnd) : (w.endActive e).faults = w.faults := by
  simp [Work.endActive]

@[simp] theorem Work.endActive_now (w : Work) (e : AirEnd) : (w.endActive e).now = w.now :=
  congrArg Context.now (w.endActive_context e)

/-- The requester of a PUMPING FILL is told its end (R112). -/
theorem Work.mem_endActive_inbox {w : Work} {f : Fill} (h : w.pneu.manifold = .pumping f) {e : AirEnd} {n : Notice}
    (hn : n ∈ f.endNotices e) : n ∈ (w.endActive e).inbox := by
  simp [Work.endActive, h, Work.tellActiveEnd, hn]

/-! ### The flag of a fault (R186, R188) -/

theorem mem_insertNew {x f : FaultId} {l : List FaultId} : x ∈ insertNew f l ↔ x = f ∨ x ∈ l := by
  unfold insertNew
  split
  · next h =>
    have hf : f ∈ l := by simpa using h
    exact ⟨.inr, fun hx => hx.elim (fun e => e ▸ hf) id⟩
  · rw [List.mem_append, List.mem_singleton, or_comm]

/-- Raising a fault leaves its flag latched, whether it was latched before or not (R186). -/
theorem Work.raise_latched (w : Work) (k : FaultKind) (i : Nat) : (w.raise k i).Latched k i := by
  unfold Seat.Latched Work.raise Work.latch
  split
  · next h => exact h
  · simp [FaultTable.latch, FaultTable.isLatched, mem_insertNew]

/-- A fault raised for a moment adds no standing live condition (R186). -/
@[simp] theorem Work.raise_faults_live (w : Work) (k : FaultKind) (i : Nat) : (w.raise k i).faults.live = w.faults.live := by
  unfold Work.raise Work.latch
  split <;> rfl

/-- CLEAR_FAULTS clears the flag of a fault that is not live (R188). -/
theorem FaultTable.isLatched_clearLatched_of_not_live {t : FaultTable} {f : FaultId} (h : t.isLive f = false) :
    t.clearLatched.isLatched f = false := by
  simp [FaultTable.clearLatched, FaultTable.isLatched, h]

/-! ### The unconfirmed time runs out (R107, R108) -/

theorem Manifold.unconfirmedAt_pumping {f : Fill} (h : f.confirmed = false) :
    (Manifold.pumping f).unconfirmedAt = some (f.since + (Config.unconfirmedLimit - f.unconfirmedTime)) := by
  simp [Manifold.unconfirmedAt, h]

/-- From the deadline on, the time run before and since together have reached the limit (R107). -/
theorem limit_le_elapsed_of_deadline {limit elapsed since now : Nat} (h : since + (limit - elapsed) ≤ now) :
    limit ≤ elapsed + (now - since) := by
  omega

theorem execFillUnconfirmedTimeout_pumping {s : State} {f : Fill} (hs : s.Powered)
    (hm : s.seat.pneu.manifold = .pumping f) (hf : f.confirmed = false) :
    exec .fillUnconfirmedTimeout s = .next (finish ((Work.start s.seat).reach
      (f.since + (Config.unconfirmedLimit - f.unconfirmedTime))).fillFailed s.link s.pending) := by
  change execFillUnconfirmedTimeout s = _
  rw [execFillUnconfirmedTimeout, State.act_powered _ s hs, Work.start_toSeat, hm, Manifold.unconfirmedAt_pumping hf,
    Work.expiry_some]

/-- The FILL that fails leaves the manifold IDLE and PUMP_NO_PRESSURE latched without a live condition (R108). -/
theorem Work.fillFailed_spec (w : Work) :
    w.fillFailed.pneu.manifold = .idle ∧ w.fillFailed.now = w.now ∧ w.fillFailed.Latched .pumpNoPressure 0 ∧
      w.fillFailed.faults.live = w.faults.live :=
  ⟨by simp [Work.fillFailed], by simp [Work.fillFailed], Work.raise_latched _ _ _, by simp [Work.fillFailed]⟩

theorem Work.mem_fillFailed_inbox {w : Work} {f : Fill} (h : w.pneu.manifold = .pumping f) {n : Notice}
    (hn : n ∈ f.endNotices .failed) : n ∈ w.fillFailed.inbox := by
  rw [Work.fillFailed, Work.raise_inbox]
  exact Work.mem_endActive_inbox h hn

/-! ### The manifold takes a FILL (R107, R108) -/

/-- A MASSAGE FILL taken while PUMP_NO_PRESSURE is latched is handed back FAILED, and nothing else is done (R108). -/
theorem Work.takeFill_massage_of_latched {w : Work} {f : Fill} (hl : w.Latched .pumpNoPressure 0)
    (hf : f.cls = .massage) : w.takeFill f = (w.tellFillEnd f .failed).post .manifold := by
  have hl' : w.faults.isLatched ⟨.pumpNoPressure, 0⟩ = true := hl
  simp [Work.takeFill, hf, hl']

/-- The manifold serves the FILL, with the cells, target and class of its request. -/
def Manifold.Serves (m : Manifold) (f : Fill) : Prop :=
  ∃ g, m.active = some (.fill g) ∧ g.cells = f.cells ∧ g.target = f.target ∧ g.cls = f.cls

theorem Work.startPumping_serves (w : Work) (f : Fill) : (w.startPumping f).pneu.manifold.Serves f := by
  unfold Work.startPumping
  dsimp only
  split <;> exact ⟨_, rfl, rfl, rfl, rfl⟩

/-- A waiting FILL is served on, whether the pump holds a grant or not (R107). -/
theorem Work.tryPump_serves {w : Work} {f : Fill} (h : w.pneu.manifold = .fillWait f) :
    w.tryPump.pneu.manifold.Serves f := by
  simp only [Work.tryPump, h]
  split
  · exact w.startPumping_serves f
  · exact ⟨f, by rw [h]; rfl, rfl, rfl, rfl⟩

/-- SUPPORT and PROTECT FILLs are tried whatever is latched (R108). -/
theorem Work.takeFill_serves {w : Work} {f : Fill} (hf : f.cls ≠ .massage) :
    (w.takeFill f).pneu.manifold.Serves f := by
  have hcls : (f.cls == .massage) = false := by simpa using hf
  simp only [Work.takeFill, hcls, Bool.false_and, Bool.false_eq_true, if_false]
  refine Work.tryPump_serves ?_
  split <;> rfl

/-- Settles O43: the expiry runs `Work.fillFailed` at the deadline, which hands the FILL back FAILED and raises the fault
for that moment only; `Work.takeFill` tests the flag before the claim, and for a MASSAGE FILL alone. -/
theorem pumpNoPressureByR108 : Obligations.PumpNoPressureByR108 := by
  refine ⟨fun s f hs hm hf => ?_, fun t => FaultTable.isLatched_clearLatched_of_not_live, fun w f _ hl hf => ?_,
    fun w f => Work.takeFill_serves⟩
  · obtain ⟨hidle, hnow, hlatched, hlive⟩ := ((Work.start s.seat).reach
      (f.since + (Config.unconfirmedLimit - f.unconfirmedTime))).fillFailed_spec
    refine ⟨_, execFillUnconfirmedTimeout_pumping hs hm hf, hidle,
      limit_le_elapsed_of_deadline (limit := Config.unconfirmedLimit) ?_, hlatched, hlive,
      fun hc => Work.mem_fillFailed_inbox hm ?_, fun c hc hmem => Work.mem_fillFailed_inbox hm ?_⟩
    · rw [hnow]
      exact Nat.le_max_right ..
    · simp [Fill.endNotices, hc]
    · simpa [Fill.endNotices, hc] using hmem
  · rw [Work.takeFill_massage_of_latched hl hf]
    simp [Fill.endNotices, hf]

end Sys2Proof.Machine
end

section
/-!
PROOF. The intensity of the massage sequencer (R127): what an edge does to the record and the output, and with which peak a
step of a built-in program starts.
-/
namespace Sys2Proof.Machine

open Sys2Proof

/-! ### An intensity edge -/

theorem clampIntensity_eq (i : Nat) : clampIntensity i = if i = 0 then 1 else if 5 < i then 5 else i := by
  unfold clampIntensity
  split
  · omega
  · split <;> omega

theorem Massage.inSession_iff (m : Massage) : m.inSession = true ↔ m.state = .running ∨ m.state = .paused := by
  simp [Massage.inSession]

@[simp] theorem Work.tellMassage_massage (w : Work) (reason : MassageReason) :
    (w.tellMassage reason).massage = w.massage := rfl

@[simp] theorem Work.tellMassage_pneu (w : Work) (reason : MassageReason) : (w.tellMassage reason).pneu = w.pneu := rfl

@[simp] theorem Work.tellMassage_out (w : Work) (reason : MassageReason) :
    (w.tellMassage reason).out = w.out ++ [massageStateItem w.massage w.now reason] := rfl

/-- The intensity in force after an edge, before anything is told. -/
def Work.setIntensity (w : Work) (i : Nat) : Work := w.modMassage fun m => { m with intensity := clampIntensity i }

@[simp] theorem Work.setIntensity_massage (w : Work) (i : Nat) :
    (w.setIntensity i).massage = { w.massage with intensity := clampIntensity i } := rfl

@[simp] theorem Work.setIntensity_pneu (w : Work) (i : Nat) : (w.setIntensity i).pneu = w.pneu := rfl

@[simp] theorem Work.setIntensity_out (w : Work) (i : Nat) : (w.setIntensity i).out = w.out := rfl

theorem Work.intensityEdge_of_eq {w : Work} {i : Nat} (h : clampIntensity i = w.massage.intensity) :
    w.intensityEdge i = w :=
  if_pos h

theorem Work.intensityEdge_of_session {w : Work} {i : Nat} (h : clampIntensity i ≠ w.massage.intensity)
    (hs : w.massage.inSession = true) : w.intensityEdge i = (w.setIntensity i).tellMassage .setting :=
  (if_neg h).trans (if_pos hs)

theorem Work.intensityEdge_of_no_session {w : Work} {i : Nat} (h : clampIntensity i ≠ w.massage.intensity)
    (hs : ¬w.massage.inSession = true) : w.intensityEdge i = w.setIntensity i :=
  (if_neg h).trans (if_neg hs)

/-- What an edge can do: nothing, set the intensity, or set it and tell it. -/
theorem Work.intensityEdge_cases (w : Work) (i : Nat) :
    clampIntensity i = w.massage.intensity ∧ w.intensityEdge i = w ∨ w.intensityEdge i = w.setIntensity i ∨
      w.intensityEdge i = (w.setIntensity i).tellMassage .setting := by
  by_cases h : clampIntensity i = w.massage.intensity
  · exact .inl ⟨h, Work.intensityEdge_of_eq h⟩
  · by_cases hs : w.massage.inSession = true
    · exact .inr (.inr (Work.intensityEdge_of_session h hs))
    · exact .inr (.inl (Work.intensityEdge_of_no_session h hs))

/-- An edge changes the intensity of the record and nothing else of it, in every state (R127). -/
theorem Work.intensityEdge_massage (w : Work) (i : Nat) :
    (w.intensityEdge i).massage = { w.massage with intensity := clampIntensity i } := by
  obtain ⟨hsame, hedge⟩ | hedge | hedge := w.intensityEdge_cases i
  · rw [hedge, hsame]
  · rw [hedge, Work.setIntensity_massage]
  · rw [hedge, Work.tellMassage_massage, Work.setIntensity_massage]

/-- A FILL asked for is left as it stands, its target included (R127). -/
theorem Work.intensityEdge_pneu (w : Work) (i : Nat) : (w.intensityEdge i).pneu = w.pneu := by
  obtain ⟨-, hedge⟩ | hedge | hedge := w.intensityEdge_cases i
  · rw [hedge]
  · rw [hedge, Work.setIntensity_pneu]
  · rw [hedge, Work.tellMassage_pneu, Work.setIntensity_pneu]

/-! ### The peak of a step -/

/-- A step of a built-in program takes its sets and hold from the program and its peak from the intensity at its start, and
leaves the record as it is (R127, R130). -/
theorem Massage.stepAt_of_program {m : Massage} {i : Nat} {p : Config.ProgramStep} (h7 : m.program ≠ 7)
    (hp : (Config.programSteps m.program)[i]? = some p) :
    m.stepAt i = (Step.make (some i) p.fill p.vent p.hold (Config.intensityPeak m.intensity), m) := by
  simp [Massage.stepAt, h7, hp]

/-- Settles O47: an edge to another intensity sets it and tells it exactly in a session, one to the same intensity leaves
the whole work as it stands, and `Massage.stepAt` copies the peak into the step. -/
theorem intensityByR127 : Obligations.IntensityByR127 := by
  refine ⟨fun w i => ?_, rfl, fun m i p h7 hp => ?_⟩
  · simp only [← clampIntensity_eq, ← Massage.inSession_iff]
    refine ⟨w.intensityEdge_massage i, w.intensityEdge_pneu i, Work.intensityEdge_of_eq, fun h hr hp => ?_,
      fun h hs => ?_⟩
    · have hs : ¬w.massage.inSession = true := by simp [Massage.inSession_iff, hr, hp]
      rw [Work.intensityEdge_of_no_session h hs, Work.setIntensity_out]
    · rw [Work.intensityEdge_of_session h hs, Work.tellMassage_out, Work.setIntensity_out]
      exact ⟨_, rfl, rfl⟩
  · rw [Massage.stepAt_of_program h7 hp]
    exact ⟨rfl, rfl, rfl, rfl, rfl⟩

end Sys2Proof.Machine
end
